-- ==== Sys2Proof/Word.lean ====
section
/-! DEFINITION. The word types of the PIC16CXX 14-bit core (00_scope.md R3). -/

namespace Sys2Proof

/-- A file register, W, an 8-bit literal: `DATA_BITS = 8` (R3). -/
abbrev Byte := BitVec 8

/-- An instruction word: `INSTR_BITS = 14` (R3, R67). -/
abbrev InstrWord := BitVec 14

/-- A program address: `PC_BITS = 13` (R3, R17). -/
abbrev ProgAddr := BitVec 13

/-- The file register field `f` of an instruction: `F_BITS = 7` (R3, R69). -/
abbrev FileField := BitVec 7

end Sys2Proof
end

