-- ==== Sys2Proof/Config.lean ====
section
/-! DEFINITION. What an implementation fixes: the parameters of 00_scope.md R4, with the defaults of
92_eei_decisions.md, and the free values, which have no body. -/

namespace Sys2Proof

namespace Machine

/-- The three ports whose TRIS registers are numbered 5, 6, 7 (10_state.md R36). -/
inductive Port where
  | a
  | b
  | c
  deriving DecidableEq, Repr

/-- A data-memory location, by class (20_memory.md R50) and, for a special register, by name (10_state.md R42). -/
inductive FileLoc where
  /-- Plain storage at a data address. -/
  | plain (a : Nat)
  /-- INDF reached through FSR: reads 0x00, a write does nothing (10_state.md R42). -/
  | null
  | tmr0
  | option
  | pcl
  | status
  | fsr
  | port (p : Port)
  | tris (p : Port)
  | pclath
  | intcon
  deriving DecidableEq, Repr

end Machine

/-- The bits a profile can select banks with. -/
inductive BankBit where
  | rp0
  | rp1
  | irp
  deriving DecidableEq, Repr

/-- The bit of the STATUS register that holds each flag and each bank bit; `none` where STATUS does not hold it. -/
structure StatusLayout where
  c : Option (BitVec 3)
  dc : Option (BitVec 3)
  z : Option (BitVec 3)
  powerDown : Option (BitVec 3)
  timeOut : Option (BitVec 3)
  rp0 : Option (BitVec 3)
  rp1 : Option (BitVec 3)
  irp : Option (BitVec 3)
  deriving DecidableEq, Repr

/-- The data addresses `first` to `last` designate `loc`; where that is plain storage, they run on from it. -/
structure MapRow where
  first : Nat
  last : Nat
  loc : Machine.FileLoc
  deriving DecidableEq, Repr

/-- A register map other than P16 (00_scope.md R4, D1: which file addresses hold which register, which are plain
storage, how banks select). DESIGN CHOICE: what such a map can say (log 34). -/
structure RegisterMap where
  /-- The first row that holds a data address gives its location; an address in no row is unmapped. -/
  rows : List MapRow
  /-- The file address that goes through FSR, if there is one. -/
  indf : Option FileField
  /-- The bits above `f` in the data address of a direct access, most significant first; none in a map without banks
  (20_memory.md R47). -/
  direct : List BankBit
  /-- The bits above FSR in the data address of an indirect access, most significant first. -/
  indirect : List BankBit
  status : StatusLayout
  /-- The OPTION bit that assigns the prescaler to Timer0 when it is 0, if OPTION has it. -/
  psa : Option (BitVec 3)
  /-- What a reset puts into OPTION (70_reset_and_hazards.md R201, "as the profile says"). -/
  optionReset : Byte
  /-- What a reset puts into every TRIS register. -/
  trisReset : Byte
  deriving DecidableEq, Repr

/-- The platform profile (00_scope.md R4, D1): no special file address at all, the conventional map P16 (10_state.md
R42), or another map. -/
inductive Profile where
  | none
  | p16
  | table (map : RegisterMap)
  deriving DecidableEq, Repr

/-- What a push on a full stack or a pop of an empty one does (10_state.md R23, R24, D4). -/
inductive StackPolicy where
  | fault
  | circular
  deriving DecidableEq, Repr

/-- What a fetch at or beyond `PROG_WORDS` does (20_memory.md R46, D5): a model fault, or the alternative the
rule allows, the implemented words repeated through the address space. -/
inductive FetchPolicy where
  | fault
  | wrap
  deriving DecidableEq, Repr

/-- Where `IntRequest` comes from (60_exceptions.md R174, D9): a free input of the environment, or besides it the
conventional enable and flag bits of INTCON. -/
inductive IntSources where
  | free
  | intcon
  deriving DecidableEq, Repr

/-- The parameters of one machine (00_scope.md R4). No step changes them. -/
structure Config where
  /-- `PROFILE`. -/
  profile : Profile
  /-- `PROG_WORDS`, 1 to 8192. -/
  progWords : Nat
  fetchPolicy : FetchPolicy
  /-- `STACK_DEPTH`. -/
  stackDepth : Nat
  /-- `STACK_POLICY`. -/
  stackPolicy : StackPolicy
  /-- `RESET_VECTOR`. -/
  resetVector : ProgAddr
  /-- `INT_VECTOR`. -/
  intVector : ProgAddr
  /-- `WDT_ENABLED` (60_exceptions.md R186). -/
  wdtEnabled : Bool
  intSources : IntSources
  /-- Which bits of INTCON<6:0> are interrupt flag bits, where `intSources` does not say it: the bits are
  "device-specific" (10_state.md R42, log 21). -/
  flagBits : BitVec 7
  /-- `PrescalerAssignedToTimer0` where the profile does not tie it to the OPTION register (10_state.md R39). -/
  psaTimer0 : Bool
  /-- Whether RP1 selects a bank in P16: "Parts with two banks ignore RP1" (10_state.md R42). -/
  fourBanks : Bool
  /-- Whether ports A, B, C exist in P16 (10_state.md R42). -/
  portA : Bool
  portB : Bool
  portC : Bool
  /-- The device-specific file addresses of P16 that are plain storage on this part, as inclusive ranges (10_state.md
  R42). -/
  storage : List (Nat × Nat)
  deriving DecidableEq, Repr

/-- The bounds on the parameters: 00_scope.md R4 bounds `PROG_WORDS`. DESIGN CHOICE: `STACK_DEPTH` is at least 1, a
bound that neither R4 nor D3 states (log 10). -/
def Config.wf (cfg : Config) : Bool :=
  decide (1 ≤ cfg.progWords) && decide (cfg.progWords ≤ 8192) && decide (1 ≤ cfg.stackDepth)

/-- What the OPTION register holds after power-on: as the profile says (10_state.md R43); without one, as in P16 (log 4). -/
def Config.optionReset (cfg : Config) : Byte :=
  match cfg.profile with
  | .none => 0xFF#8
  | .p16 => 0xFF#8
  | .table map => map.optionReset

/-- What the TRIS registers hold after power-on: as the profile says (10_state.md R43); without one, as in P16 (log 4). -/
def Config.trisReset (cfg : Config) : Byte :=
  match cfg.profile with
  | .none => 0xFF#8
  | .p16 => 0xFF#8
  | .table map => map.trisReset

/-- The defaults of 92_eei_decisions.md. DESIGN CHOICE where it leaves a parameter open without one:
`progWords`, `wdtEnabled`, `psaTimer0` and the device description (logs 9, 11, 17, 22). PRESUMED: `flagBits`, those of
the family (log 21). -/
def Config.default : Config where
  profile := .p16
  progWords := 8192
  fetchPolicy := .fault
  stackDepth := 8
  stackPolicy := .fault
  resetVector := 0x0000#13
  intVector := 0x0004#13
  wdtEnabled := false
  intSources := .free
  flagBits := 0b0000111#7
  psaTimer0 := false
  fourBanks := true
  portA := true
  portB := true
  portC := true
  storage := [(0x50, 0x7F)]

/-- FREE VALUE: what the plain storage location at an address reads as before anything is written to it
(10_state.md R43: "a free draw of 8 bits"; log 7). -/
opaque Config.unwritten : Nat → Byte

/-- FREE VALUE: the levels on the pins of the port whose TRIS operand is the first argument, given its latch, its
TRIS register and the tick (20_memory.md R52, 60_exceptions.md R183; log 16). -/
opaque Config.pinLevels : Nat → Byte → Byte → Nat → Byte

/-- FREE VALUE: what TMR0 reads as, given the value last written and the tick (60_exceptions.md R185; log 16). -/
opaque Config.timer0 : Byte → Nat → Byte

/-- FREE VALUE: what a stack slot that nothing has written returns, at a tick (10_state.md R24; log 10). -/
opaque Config.emptySlot : Nat → ProgAddr

end Sys2Proof
end

