-- ==== Sys2Proof/Syntax.lean ====
section
/-! DEFINITION. The instructions: one constructor per row of spec/opcode_table.json. -/

namespace Sys2Proof

/-- The destination designator `d` (30_encoding.md R69): 0 is W, 1 is the file register. -/
inductive Dest where
  | w
  | f
  deriving DecidableEq, Repr

/-- The 37 instructions (Table 9-2, with OPTION and TRIS of section 9.1). -/
inductive Instr where
  -- byte-oriented file register operations (40_byte_oriented.md)
  | addwf (f : FileField) (d : Dest)
  | andwf (f : FileField) (d : Dest)
  | clrf (f : FileField)
  | clrw
  | comf (f : FileField) (d : Dest)
  | decf (f : FileField) (d : Dest)
  | decfsz (f : FileField) (d : Dest)
  | incf (f : FileField) (d : Dest)
  | incfsz (f : FileField) (d : Dest)
  | iorwf (f : FileField) (d : Dest)
  | movf (f : FileField) (d : Dest)
  | movwf (f : FileField)
  | nop
  | rlf (f : FileField) (d : Dest)
  | rrf (f : FileField) (d : Dest)
  | subwf (f : FileField) (d : Dest)
  | swapf (f : FileField) (d : Dest)
  | xorwf (f : FileField) (d : Dest)
  -- bit-oriented file register operations (41_bit_oriented.md)
  | bcf (f : FileField) (b : BitVec 3)
  | bsf (f : FileField) (b : BitVec 3)
  | btfsc (f : FileField) (b : BitVec 3)
  | btfss (f : FileField) (b : BitVec 3)
  -- literal and control operations (42_literal_control.md)
  | addlw (k : Byte)
  | andlw (k : Byte)
  | call (k : BitVec 11)
  | clrwdt
  | goto (k : BitVec 11)
  | iorlw (k : Byte)
  | movlw (k : Byte)
  | retfie
  | retlw (k : Byte)
  | ret
  | sleep
  | sublw (k : Byte)
  | xorlw (k : Byte)
  -- OPTION and TRIS (43_option_tris.md); the operand of TRIS is a 3-bit register number
  | option
  | tris (f : BitVec 3)
  deriving DecidableEq, Repr

end Sys2Proof
end

