-- ==== Sys2Proof/WellFormed.lean ====
section
/-! DEFINITION. Which terms of Instr are instructions: the operand ranges that the field widths do not already
enforce. -/

namespace Sys2Proof

/-- "5 ≤ f ≤ 7" (43_option_tris.md R161); every other operand range is the width of its field. -/
def Instr.wf : Instr → Bool
  | .tris f => decide (5 ≤ f.toNat)
  | .addwf _ _ | .andwf _ _ | .clrf _ | .clrw | .comf _ _ | .decf _ _ | .decfsz _ _ | .incf _ _ | .incfsz _ _
  | .iorwf _ _ | .movf _ _ | .movwf _ | .nop | .rlf _ _ | .rrf _ _ | .subwf _ _ | .swapf _ _ | .xorwf _ _
  | .bcf _ _ | .bsf _ _ | .btfsc _ _ | .btfss _ _ | .addlw _ | .andlw _ | .call _ | .clrwdt | .goto _
  | .iorlw _ | .movlw _ | .retfie | .retlw _ | .ret | .sleep | .sublw _ | .xorlw _ | .option => true

end Sys2Proof
end

