-- ==== Sys2Proof/Decode.lean ====
section
/-! DEFINITION. Decoding and encoding of the 14-bit instruction word (30_encoding.md). -/

namespace Sys2Proof

/-- The one way a word fails to decode: it is one of the 372 unassigned words (30_encoding.md R81). -/
inductive Undecoded where
  | unassigned (iw : InstrWord)
  deriving DecidableEq, Repr

/-- `iw[lo + len - 1 : lo]` (00_scope.md section 5.1). -/
def field (iw : InstrWord) (lo len : Nat) : BitVec len := iw.extractLsb' lo len

/-- The file register field `f = iw[6:0]` of formats B and T (R69, R70). -/
def fieldF (iw : InstrWord) : FileField := field iw 0 7

/-- The destination select `d = iw[7]` (R69). -/
def fieldD (iw : InstrWord) : Dest := if iw.getLsbD 7 then .f else .w

/-- The bit number `b = iw[9:7]` (R70). -/
def fieldB (iw : InstrWord) : BitVec 3 := field iw 7 3

/-- The 8-bit literal `k = iw[7:0]` (R71). -/
def fieldK8 (iw : InstrWord) : Byte := field iw 0 8

/-- The 11-bit literal `k = iw[10:0]` (R72). -/
def fieldK11 (iw : InstrWord) : BitVec 11 := field iw 0 11

/-- Sub-group `00 0000 0xxx xxxx` (R77): fixed words, NOP with two don't-care bits, TRIS for 5, 6, 7 only. -/
def decodeNoOperand (iw : InstrWord) : Except Undecoded Instr :=
  match (field iw 0 7).toNat with
  | 0x00 => .ok .nop
  | 0x20 => .ok .nop
  | 0x40 => .ok .nop
  | 0x60 => .ok .nop
  | 0x08 => .ok .ret
  | 0x09 => .ok .retfie
  | 0x62 => .ok .option
  | 0x63 => .ok .sleep
  | 0x64 => .ok .clrwdt
  | 0x65 => .ok (.tris 5#3)
  | 0x66 => .ok (.tris 6#3)
  | 0x67 => .ok (.tris 7#3)
  | _ => .error (.unassigned iw)

/-- Group `00`, selected by `iw[11:8]` and for the first two values by `iw[7]` (R76). -/
def decodeByteOriented (iw : InstrWord) : Except Undecoded Instr :=
  match (field iw 8 4).toNat with
  | 0x0 => if iw.getLsbD 7 then .ok (.movwf (fieldF iw)) else decodeNoOperand iw
  | 0x1 => .ok (if iw.getLsbD 7 then .clrf (fieldF iw) else .clrw)
  | 0x2 => .ok (.subwf (fieldF iw) (fieldD iw))
  | 0x3 => .ok (.decf (fieldF iw) (fieldD iw))
  | 0x4 => .ok (.iorwf (fieldF iw) (fieldD iw))
  | 0x5 => .ok (.andwf (fieldF iw) (fieldD iw))
  | 0x6 => .ok (.xorwf (fieldF iw) (fieldD iw))
  | 0x7 => .ok (.addwf (fieldF iw) (fieldD iw))
  | 0x8 => .ok (.movf (fieldF iw) (fieldD iw))
  | 0x9 => .ok (.comf (fieldF iw) (fieldD iw))
  | 0xA => .ok (.incf (fieldF iw) (fieldD iw))
  | 0xB => .ok (.decfsz (fieldF iw) (fieldD iw))
  | 0xC => .ok (.rrf (fieldF iw) (fieldD iw))
  | 0xD => .ok (.rlf (fieldF iw) (fieldD iw))
  | 0xE => .ok (.swapf (fieldF iw) (fieldD iw))
  | _ => .ok (.incfsz (fieldF iw) (fieldD iw))

/-- Group `01`, selected by `iw[11:10]` (R78). -/
def decodeBitOriented (iw : InstrWord) : Instr :=
  match (field iw 10 2).toNat with
  | 0 => .bcf (fieldF iw) (fieldB iw)
  | 1 => .bsf (fieldF iw) (fieldB iw)
  | 2 => .btfsc (fieldF iw) (fieldB iw)
  | _ => .btfss (fieldF iw) (fieldB iw)

/-- Group `10`, selected by `iw[11]` (R79). -/
def decodeJump (iw : InstrWord) : Instr :=
  if iw.getLsbD 11 then .goto (fieldK11 iw) else .call (fieldK11 iw)

/-- Group `11`, selected by `iw[11:8]` (R80). -/
def decodeLiteral (iw : InstrWord) : Except Undecoded Instr :=
  match (field iw 8 4).toNat with
  | 0x0 => .ok (.movlw (fieldK8 iw))
  | 0x1 => .ok (.movlw (fieldK8 iw))
  | 0x2 => .ok (.movlw (fieldK8 iw))
  | 0x3 => .ok (.movlw (fieldK8 iw))
  | 0x4 => .ok (.retlw (fieldK8 iw))
  | 0x5 => .ok (.retlw (fieldK8 iw))
  | 0x6 => .ok (.retlw (fieldK8 iw))
  | 0x7 => .ok (.retlw (fieldK8 iw))
  | 0x8 => .ok (.iorlw (fieldK8 iw))
  | 0x9 => .ok (.andlw (fieldK8 iw))
  | 0xA => .ok (.xorlw (fieldK8 iw))
  | 0xB => .error (.unassigned iw)
  | 0xC => .ok (.sublw (fieldK8 iw))
  | 0xD => .ok (.sublw (fieldK8 iw))
  | _ => .ok (.addlw (fieldK8 iw))

/-- The decoder: total, and without reference to state (R75, R84). -/
def decode (iw : InstrWord) : Except Undecoded Instr :=
  match (field iw 12 2).toNat with
  | 0 => decodeByteOriented iw
  | 1 => .ok (decodeBitOriented iw)
  | 2 => .ok (decodeJump iw)
  | _ => decodeLiteral iw

/-- The bit of the destination designator (R69). -/
def Dest.bit : Dest → BitVec 1
  | .w => 0#1
  | .f => 1#1

/-- Format B: `opcode[13:8]`, `d[7]`, `f[6:0]` (R68). -/
def encodeB (opcode : BitVec 6) (d : Dest) (f : FileField) : InstrWord := (opcode ++ d.bit ++ f).cast rfl

/-- Format T: `opcode[13:10]`, `b[9:7]`, `f[6:0]` (R68). -/
def encodeT (opcode : BitVec 4) (b : BitVec 3) (f : FileField) : InstrWord := (opcode ++ b ++ f).cast rfl

/-- Format L: `opcode[13:8]`, `k[7:0]` (R68). -/
def encodeL (opcode : BitVec 6) (k : Byte) : InstrWord := (opcode ++ k).cast rfl

/-- Format J: `opcode[13:11]`, `k[10:0]` (R68). -/
def encodeJ (opcode : BitVec 3) (k : BitVec 11) : InstrWord := (opcode ++ k).cast rfl

/-- The canonical word of an instruction: the pattern of R76 to R80 with every don't-care bit 0 (R74, R89). -/
def encode : Instr → InstrWord
  | .addwf f d => encodeB 0b000111#6 d f
  | .andwf f d => encodeB 0b000101#6 d f
  | .clrf f => encodeB 0b000001#6 .f f
  | .clrw => encodeB 0b000001#6 .w 0#7
  | .comf f d => encodeB 0b001001#6 d f
  | .decf f d => encodeB 0b000011#6 d f
  | .decfsz f d => encodeB 0b001011#6 d f
  | .incf f d => encodeB 0b001010#6 d f
  | .incfsz f d => encodeB 0b001111#6 d f
  | .iorwf f d => encodeB 0b000100#6 d f
  | .movf f d => encodeB 0b001000#6 d f
  | .movwf f => encodeB 0b000000#6 .f f
  | .nop => 0x0000#14
  | .rlf f d => encodeB 0b001101#6 d f
  | .rrf f d => encodeB 0b001100#6 d f
  | .subwf f d => encodeB 0b000010#6 d f
  | .swapf f d => encodeB 0b001110#6 d f
  | .xorwf f d => encodeB 0b000110#6 d f
  | .bcf f b => encodeT 0b0100#4 b f
  | .bsf f b => encodeT 0b0101#4 b f
  | .btfsc f b => encodeT 0b0110#4 b f
  | .btfss f b => encodeT 0b0111#4 b f
  | .addlw k => encodeL 0b111110#6 k
  | .andlw k => encodeL 0b111001#6 k
  | .call k => encodeJ 0b100#3 k
  | .clrwdt => 0x0064#14
  | .goto k => encodeJ 0b101#3 k
  | .iorlw k => encodeL 0b111000#6 k
  | .movlw k => encodeL 0b110000#6 k
  | .retfie => 0x0009#14
  | .retlw k => encodeL 0b110100#6 k
  | .ret => 0x0008#14
  | .sleep => 0x0063#14
  | .sublw k => encodeL 0b111100#6 k
  | .xorlw k => encodeL 0b111010#6 k
  | .option => 0x0062#14
  | .tris f => (0b00000001100#11 ++ f).cast rfl

/-- The mask and the match of an instruction's row in the tables of R76 to R80: a word is of the row when the bits
under the mask are those of the match (TRIS, whose range of operands is part of its encoding, has the added
condition of R77). -/
def Instr.maskMatch : Instr → InstrWord × InstrWord
  | .addwf _ _ => (0x3F00#14, 0x0700#14)
  | .andwf _ _ => (0x3F00#14, 0x0500#14)
  | .clrf _ => (0x3F80#14, 0x0180#14)
  | .clrw => (0x3F80#14, 0x0100#14)
  | .comf _ _ => (0x3F00#14, 0x0900#14)
  | .decf _ _ => (0x3F00#14, 0x0300#14)
  | .decfsz _ _ => (0x3F00#14, 0x0B00#14)
  | .incf _ _ => (0x3F00#14, 0x0A00#14)
  | .incfsz _ _ => (0x3F00#14, 0x0F00#14)
  | .iorwf _ _ => (0x3F00#14, 0x0400#14)
  | .movf _ _ => (0x3F00#14, 0x0800#14)
  | .movwf _ => (0x3F80#14, 0x0080#14)
  | .nop => (0x3F9F#14, 0x0000#14)
  | .rlf _ _ => (0x3F00#14, 0x0D00#14)
  | .rrf _ _ => (0x3F00#14, 0x0C00#14)
  | .subwf _ _ => (0x3F00#14, 0x0200#14)
  | .swapf _ _ => (0x3F00#14, 0x0E00#14)
  | .xorwf _ _ => (0x3F00#14, 0x0600#14)
  | .bcf _ _ => (0x3C00#14, 0x1000#14)
  | .bsf _ _ => (0x3C00#14, 0x1400#14)
  | .btfsc _ _ => (0x3C00#14, 0x1800#14)
  | .btfss _ _ => (0x3C00#14, 0x1C00#14)
  | .addlw _ => (0x3E00#14, 0x3E00#14)
  | .andlw _ => (0x3F00#14, 0x3900#14)
  | .call _ => (0x3800#14, 0x2000#14)
  | .clrwdt => (0x3FFF#14, 0x0064#14)
  | .goto _ => (0x3800#14, 0x2800#14)
  | .iorlw _ => (0x3F00#14, 0x3800#14)
  | .movlw _ => (0x3C00#14, 0x3000#14)
  | .retfie => (0x3FFF#14, 0x0009#14)
  | .retlw _ => (0x3C00#14, 0x3400#14)
  | .ret => (0x3FFF#14, 0x0008#14)
  | .sleep => (0x3FFF#14, 0x0063#14)
  | .sublw _ => (0x3E00#14, 0x3C00#14)
  | .xorlw _ => (0x3F00#14, 0x3A00#14)
  | .option => (0x3FFF#14, 0x0062#14)
  | .tris _ => (0x3FF8#14, 0x0060#14)

/-- The instruction the decoder reads from a word of at most `nbits` bits, numbered as spec/opcode_table.json
numbers them. Instructions are one 14-bit word (R67): a number with a bit above bit 13 set is no instruction word. -/
def decodeTableWord (nbits w : Nat) : Option Instr :=
  if w % 2 ^ nbits < 2 ^ 14 then
    match decode (BitVec.ofNat 14 (w % 2 ^ nbits)) with
    | .ok i => some i
    | .error _ => none
  else none

end Sys2Proof
end

