-- ==== Sys2Proof/Machine/State.lean ====
section
/-! DEFINITION. The state of the core, as plain data (10_state.md), the environment's inputs, the reasons a step
can stop, and the state after reset. -/

namespace Sys2Proof.Machine

/-- One 8-bit register for each port. -/
structure PortRegs where
  a : Byte
  b : Byte
  c : Byte
  deriving DecidableEq, Repr

/-- What the environment does at one instruction boundary and during the step that follows it (60_exceptions.md R176,
R183, R186, R189; 70_reset_and_hazards.md R219). The default is a quiet boundary. -/
structure Input where
  /-- The external reset, which may replace any step. -/
  externalReset : Bool := false
  /-- `WdtTimeout`. -/
  wdtTimeout : Bool := false
  /-- `Wake`. -/
  wake : Bool := false
  /-- `IntRequest`. -/
  intRequest : Bool := false
  /-- The bits that interrupt sources set in INTCON<6:0>; those that are no flag bits have no effect (20_memory.md R65,
  log 21). -/
  intFlags : BitVec 7 := 0#7
  /-- How far the watchdog counter has advanced since the last boundary. -/
  wdtTicks : Nat := 0
  /-- How far the prescaler count has advanced since the last boundary. -/
  prescalerTicks : Nat := 0
  /-- The pin levels of the ports; `none` leaves them a free value. -/
  pinsA : Option Byte := none
  pinsB : Option Byte := none
  pinsC : Option Byte := none
  /-- What TMR0 reads as; `none` leaves it a free value. -/
  timer0 : Option Byte := none
  deriving DecidableEq, Repr

/-- A write to a device register, passed to the environment (20_memory.md R49, R54, R65). -/
inductive Event where
  | port (p : Port) (v : Byte)
  | tris (p : Port) (v : Byte)
  | tmr0 (v : Byte)
  | option (v : Byte)
  deriving DecidableEq, Repr

/-- The model faults (60_exceptions.md R171). Each is safe: the hardware goes on in a way the spec does not give. -/
inductive Fault where
  /-- F1, raised by a fetch at or beyond `PROG_WORDS` (20_memory.md R46). Safe. -/
  | fetchOutOfRange (p : ProgAddr)
  /-- F2, raised by the execution of one of the 372 unassigned words (30_encoding.md R82). Safe. -/
  | unassignedOpcode (pc : ProgAddr) (iw : InstrWord)
  /-- F3, raised by a data access to a location the profile does not map (20_memory.md R48, R49). Safe. -/
  | unmappedFile (a : Nat)
  /-- F4, raised by CALL and by interrupt entry on a full stack under `STACK_POLICY = fault` (10_state.md R23). Safe. -/
  | stackOverflow (pc : ProgAddr)
  /-- F5, raised by RETURN, RETLW, RETFIE on an empty stack under `STACK_POLICY = fault` (10_state.md R24). Safe. -/
  | stackUnderflow (pc : ProgAddr)
  /-- F6, raised by DECFSZ and INCFSZ with `d = 1` onto the program counter's low byte (40_byte_oriented.md R109, R111,
  D13). Safe. -/
  | unspecifiedCombination (pc : ProgAddr) (iw : InstrWord)
  /-- The model's own, raised by a fetch of a program word that no load has given a value (log 8). Safe. -/
  | unloadedWord (p : ProgAddr)
  deriving DecidableEq, Repr

/-- The refusals. -/
inductive Refusal where
  /-- Raised by exec's arm for an instruction that has no meaning yet. Safe. -/
  | notModelled (mnemonic : String)
  /-- Raised by TRIS with an operand outside 5 to 7, a term no word decodes to (93_implementation_defined.md U13). Safe. -/
  | trisOperand (f : BitVec 3)
  deriving DecidableEq, Repr

/-- The machine (10_state.md section 1). -/
structure State where
  /-- The parameters of this machine (00_scope.md R4); no step changes them. -/
  cfg : Config
  /-- The working register (R13). -/
  w : Byte
  /-- The address of the instruction being executed (R17, R19). -/
  pc : ProgAddr
  /-- The carry flag (R27). -/
  c : Bool
  /-- The digit carry (R28). -/
  dc : Bool
  /-- The zero flag (R29). -/
  z : Bool
  /-- The time-out bit TO (R30). -/
  timeOut : Bool
  /-- The power-down bit PD (R31). -/
  powerDown : Bool
  /-- STATUS<5>, RP0 (R42). -/
  rp0 : Bool
  /-- STATUS<6>, RP1 (R42). -/
  rp1 : Bool
  /-- STATUS<7>, IRP (R42). -/
  irp : Bool
  /-- FSR (R37, R42). -/
  fsr : Byte
  /-- The program counter high latch, five bits (R34, R42). DESIGN CHOICE: so in every map (log 34). -/
  pclath : BitVec 5
  /-- INTCON<7>, the global interrupt enable bit (R33). -/
  gie : Bool
  /-- INTCON<6:0>, device-specific enable and flag bits (R42). -/
  intcon : BitVec 7
  /-- The OPTION register (R35). -/
  optionReg : Byte
  /-- The TRIS registers (R36). -/
  trisRegs : PortRegs
  /-- The output latches of the ports (20_memory.md R52). -/
  latches : PortRegs
  /-- The value last written to TMR0 (R37). -/
  tmr0 : Byte
  /-- The watchdog counter (R38). -/
  wdt : Nat
  /-- The prescaler count (R39). -/
  prescaler : Nat
  /-- The sleep state (R40). -/
  asleep : Bool
  /-- The live return addresses, top of stack first (R23 to R26). -/
  stack : List ProgAddr
  /-- The free stack slots that hold a stale address, in the order a circular pointer reaches them (R24). -/
  stale : List ProgAddr
  /-- Plain storage (R14), in the canonical form of `Memory.wf`. -/
  data : List Host.Cell
  /-- Program memory (20_memory.md R45), in the canonical form of `Memory.wf`. -/
  prog : List (Nat × InstrWord)
  /-- The instruction cycles executed (70_reset_and_hazards.md R214, R219). -/
  cycles : Nat
  /-- The model's own: the writes to device registers, newest first (20_memory.md R54). -/
  events : List Event
  /-- The model's own: the environment's input of the step in progress. -/
  env : Input
  /-- The model's own: the environment's inputs of the boundaries to come; past the end every boundary is quiet. -/
  inputs : List Input
  /-- The model's own: counts the boundaries; the free values of a step are drawn at it. -/
  tick : Nat
  deriving DecidableEq, Repr

/-- The launch (70_reset_and_hazards.md R222): the parameters, the program words, then `Reset(power_on)` (R201) with
the values of 10_state.md R43. DESIGN CHOICE, unsafe: W, C, DC, Z, FSR, TMR0 and the latches are 0 (logs 3, 4).
PRESUMED, unsafe: INTCON<6:0> is 0 (log 5). -/
def State.launch (cfg : Config) (prog : List (Nat × InstrWord)) : State where
  cfg := cfg
  w := 0x00#8
  pc := cfg.resetVector
  c := false
  dc := false
  z := false
  timeOut := true
  powerDown := true
  rp0 := false
  rp1 := false
  irp := false
  fsr := 0x00#8
  pclath := 0#5
  gie := false
  intcon := 0#7
  optionReg := cfg.optionReset
  trisRegs := ⟨cfg.trisReset, cfg.trisReset, cfg.trisReset⟩
  latches := ⟨0x00#8, 0x00#8, 0x00#8⟩
  tmr0 := 0x00#8
  wdt := 0
  prescaler := 0
  asleep := false
  stack := []
  stale := []
  data := []
  prog := prog
  cycles := 0
  events := []
  env := {}
  inputs := []
  tick := 0

/-- The machine right after power-on reset, with the default parameters and nothing loaded. -/
def State.reset : State := State.launch Config.default []

end Sys2Proof.Machine
end

