-- ==== Sys2Proof/Machine/Ops.lean ====
section
/-! DEFINITION. The named operations on memory, registers, the return stack, the watchdog, and the taking of an
interrupt and of a reset. -/

namespace Sys2Proof.Machine

/-- What the execution of one instruction answers. -/
abbrev Result := Host.Outcome State Fault Refusal

/-! ### Sparse memory: (address, value) pairs, addresses strictly rising; an unlisted address holds no value -/

/-- The value listed at an address, if there is one. -/
def Memory.read {α : Type} : List (Nat × α) → Nat → Option α
  | [], _ => none
  | (b, v) :: rest, a => if b = a then some v else Memory.read rest a

/-- A write, which keeps the addresses rising. -/
def Memory.write {α : Type} : List (Nat × α) → Nat → α → List (Nat × α)
  | [], a, v => [(a, v)]
  | (b, u) :: rest, a, v =>
    if a < b then (a, v) :: (b, u) :: rest
    else if a = b then (a, v) :: rest
    else (b, u) :: Memory.write rest a v

/-- The canonical form: addresses strictly rising. An unlisted address holds no value (10_state.md R43), so no entry
can equal what an unlisted address reads as. -/
def Memory.wf {α : Type} : List (Nat × α) → Bool
  | [] => true
  | [_] => true
  | (a, _) :: (b, v) :: rest => decide (a < b) && Memory.wf ((b, v) :: rest)

/-! ### Port registers -/

/-- The register of one port. -/
def PortRegs.get (r : PortRegs) : Port → Byte
  | .a => r.a
  | .b => r.b
  | .c => r.c

/-- Writes the register of one port. -/
def PortRegs.set (r : PortRegs) (p : Port) (v : Byte) : PortRegs :=
  match p with
  | .a => { r with a := v }
  | .b => { r with b := v }
  | .c => { r with c := v }

/-- The number TRIS gives a port's TRIS register (43_option_tris.md R161). -/
def Port.number : Port → Nat
  | .a => 5
  | .b => 6
  | .c => 7

/-! ### The program counter -/

/-- `pc <- (pc + 1) mod 8192`, in one cycle (10_state.md R20, 70_reset_and_hazards.md R214). -/
def State.advance (s : State) : State := { s with pc := s.pc + 1#13, cycles := s.cycles + 1 }

/-- The end of a skip instruction: `pc <- (pc + 2) mod 8192` in two cycles if the test holds, else as `advance`
(10_state.md R21, 70_reset_and_hazards.md R214). -/
def State.skipIf (s : State) (test : Bool) : State :=
  { s with
    pc := if test then s.pc + 2#13 else s.pc + 1#13
    cycles := if test then s.cycles + 2 else s.cycles + 1 }

/-- A change of the program counter, in two cycles (70_reset_and_hazards.md R214). -/
def State.jump (s : State) (t : ProgAddr) : State := { s with pc := t, cycles := s.cycles + 2 }

/-- `PCLATH[4:3] : k`, the target of CALL and GOTO (42_literal_control.md R144). -/
def State.pageTarget (s : State) (k : BitVec 11) : ProgAddr := (s.pclath.extractLsb' 3 2 ++ k).cast rfl

/-- `W <- v`. -/
def State.setW (s : State) (v : Byte) : State := { s with w := v }

/-! ### The return stack -/

/-- `Push(v)` (10_state.md R23). The slot written is the free one next above the top, the last of `stale` if that
slot holds a stale address. On a full stack: `STACK_POLICY`. -/
def State.push (s : State) (v : ProgAddr) : Except Fault State :=
  if s.stack.length < s.cfg.stackDepth then
    .ok { s with stack := v :: s.stack, stale := s.stale.dropLast }
  else
    match s.cfg.stackPolicy with
    | .fault => .error (.stackOverflow s.pc)
    | .circular => .ok { s with stack := (v :: s.stack).take s.cfg.stackDepth }

/-- `Pop()` of an empty circular stack: the value in the slot the pointer reaches, a free value if nothing was ever
written there (10_state.md R24). -/
def State.popStale (s : State) : ProgAddr × State :=
  if s.stale.length < s.cfg.stackDepth then
    (Config.emptySlot s.tick, { s with stale := s.stale ++ [Config.emptySlot s.tick] })
  else
    match s.stale with
    | [] => (Config.emptySlot s.tick, s)
    | v :: rest => (v, { s with stale := rest ++ [v] })

/-- The slot a pop frees keeps its address, which only the circular policy can bring back (10_state.md R24). -/
def State.freedSlot (s : State) (t : ProgAddr) : List ProgAddr :=
  match s.cfg.stackPolicy with
  | .fault => s.stale
  | .circular => s.stale ++ [t]

/-- `Pop()` (10_state.md R24): the entry removed, and the state without it. -/
def State.pop (s : State) : Except Fault (ProgAddr × State) :=
  match s.stack with
  | t :: rest => .ok (t, { s with stack := rest, stale := s.freedSlot t })
  | [] =>
    match s.cfg.stackPolicy with
    | .fault => .error (.stackUnderflow s.pc)
    | .circular => .ok s.popStale

/-! ### The watchdog and the prescaler -/

/-- The OPTION bit that assigns the prescaler to Timer0 when it is 0: bit 3 in profile P16 (10_state.md R42). -/
def prescalerBit (cfg : Config) : Option (BitVec 3) :=
  match cfg.profile with
  | .none => none
  | .p16 => some 3#3
  | .table map => map.psa

/-- `PrescalerAssignedToTimer0` (10_state.md R39): the profile's OPTION bit is 0; a parameter where there is no such bit. -/
def State.prescalerToTimer0 (s : State) : Bool :=
  match prescalerBit s.cfg with
  | none => s.cfg.psaTimer0
  | some n => !s.optionReg.getLsbD n.toNat

/-- `WDT <- 0; if not PrescalerAssignedToTimer0 then prescaler <- 0` (42_literal_control.md R145, R152; C13). -/
def State.clearWatchdog (s : State) : State :=
  { s with wdt := 0, prescaler := if s.prescalerToTimer0 then s.prescaler else 0 }

/-- Writes TO and PD. -/
def State.setTimePower (s : State) (timeOut powerDown : Bool) : State :=
  { s with timeOut := timeOut, powerDown := powerDown }

/-! ### The OPTION and TRIS registers -/

/-- `OPTION <- v` (43_option_tris.md R160); a device write, hence an event (20_memory.md R65). -/
def State.writeOption (s : State) (v : Byte) : State :=
  { s with optionReg := v, events := .option v :: s.events }

/-- `TRISREG[f] <- v` (43_option_tris.md R161); a device write, hence an event (20_memory.md R65). -/
def State.writeTris (s : State) (p : Port) (v : Byte) : State :=
  { s with trisRegs := s.trisRegs.set p v, events := .tris p v :: s.events }

/-! ### Reading and writing a data-memory location -/

/-- The layout of STATUS in profile P16: IRP RP1 RP0 TO PD Z DC C (10_state.md R42). -/
def StatusLayout.conventional : StatusLayout where
  c := some 0#3
  dc := some 1#3
  z := some 2#3
  powerDown := some 3#3
  timeOut := some 4#3
  rp0 := some 5#3
  rp1 := some 6#3
  irp := some 7#3

/-- The layout of STATUS (without a profile no address holds STATUS). -/
def statusLayout (cfg : Config) : StatusLayout :=
  match cfg.profile with
  | .none => StatusLayout.conventional
  | .p16 => StatusLayout.conventional
  | .table map => map.status

/-- A byte with a bit in its place, and 0 elsewhere. -/
def placeBit (place : Option (BitVec 3)) (b : Bool) : Byte :=
  match place with
  | none => 0#8
  | some n => (BitVec.ofBool b).setWidth 8 <<< n.toNat

/-- A bit after a byte is written over its place: that bit of the byte, or as before where it has no place. -/
def takeBit (place : Option (BitVec 3)) (v : Byte) (old : Bool) : Bool :=
  match place with
  | none => old
  | some n => v.getLsbD n.toNat

/-- The value of the STATUS register (10_state.md R42), a bit that holds nothing reading as 0. -/
def State.statusByte (s : State) : Byte :=
  placeBit (statusLayout s.cfg).c s.c ||| placeBit (statusLayout s.cfg).dc s.dc |||
    placeBit (statusLayout s.cfg).z s.z ||| placeBit (statusLayout s.cfg).powerDown s.powerDown |||
    placeBit (statusLayout s.cfg).timeOut s.timeOut ||| placeBit (statusLayout s.cfg).rp0 s.rp0 |||
    placeBit (statusLayout s.cfg).rp1 s.rp1 ||| placeBit (statusLayout s.cfg).irp s.irp

/-- The value of the INTCON register: GIE is bit 7 (10_state.md R33). -/
def State.intconByte (s : State) : Byte := (BitVec.ofBool s.gie ++ s.intcon).cast rfl

/-- The low byte of the program counter as a file operand: `((pc + 1) mod 8192)[7:0]` (10_state.md R22). -/
def State.pclByte (s : State) : Byte := (s.pc + 1#13).setWidth 8

/-- What a plain storage location reads as: the last value written, or a free value (10_state.md R43). -/
def State.plainByte (s : State) (a : Nat) : Byte :=
  match Memory.read s.data a with
  | some v => v
  | none => Config.unwritten a

/-- The pin levels the environment gives a port in this step, if it gives any. -/
def Input.pins (e : Input) : Port → Option Byte
  | .a => e.pinsA
  | .b => e.pinsB
  | .c => e.pinsC

/-- The levels on the pins of a port (20_memory.md R52): the environment's, or a free value. -/
def State.pinByte (s : State) (p : Port) : Byte :=
  match s.env.pins p with
  | some v => v
  | none => Config.pinLevels p.number (s.latches.get p) (s.trisRegs.get p) s.tick

/-- What TMR0 reads as (60_exceptions.md R185): the environment's value, or a free value. -/
def State.timer0Byte (s : State) : Byte :=
  match s.env.timer0 with
  | some v => v
  | none => Config.timer0 s.tmr0 s.tick

/-- `MemRead(a, 1)` by the class of the location (20_memory.md R48). It changes no state. DESIGN CHOICE: PCLATH<7:5> read as
0 in every map (log 34). -/
def State.readLoc (s : State) : FileLoc → Byte
  | .plain a => s.plainByte a
  | .null => 0x00#8
  | .tmr0 => s.timer0Byte
  | .option => s.optionReg
  | .pcl => s.pclByte
  | .status => s.statusByte
  | .fsr => s.fsr
  | .port p => s.pinByte p
  | .tris p => s.trisRegs.get p
  | .pclath => s.pclath.setWidth 8
  | .intcon => s.intconByte

/-- A data write to STATUS (10_state.md R42, the note): TO and PD keep their values, and so do C, DC and Z when the
instruction lists any flag as affected. -/
def State.writeStatus (s : State) (listsFlags : Bool) (v : Byte) : State :=
  { s with
    irp := takeBit (statusLayout s.cfg).irp v s.irp
    rp1 := takeBit (statusLayout s.cfg).rp1 v s.rp1
    rp0 := takeBit (statusLayout s.cfg).rp0 v s.rp0
    z := if listsFlags then s.z else takeBit (statusLayout s.cfg).z v s.z
    dc := if listsFlags then s.dc else takeBit (statusLayout s.cfg).dc v s.dc
    c := if listsFlags then s.c else takeBit (statusLayout s.cfg).c v s.c }

/-- `MemWrite(a, 1, v)` by the class of the location (20_memory.md R49). `listsFlags` says whether the instruction
lists C, DC or Z as affected, which matters to STATUS only. A write to PCL is a jump to `PCLATH[4:0] : v` (10_state.md R22, R42);
one to TMR0 clears the prescaler if it is assigned to Timer0 (20_memory.md R53). DESIGN CHOICE: PCLATH takes five bits in
every map, where R34 leaves its width open and R42 gives it for P16 (log 34). -/
def State.writeLoc (s : State) (l : FileLoc) (listsFlags : Bool) (v : Byte) : State :=
  match l with
  | .plain a => { s with data := Memory.write s.data a v }
  | .null => s
  | .tmr0 =>
    { s with
      tmr0 := v
      prescaler := if s.prescalerToTimer0 then 0 else s.prescaler
      events := .tmr0 v :: s.events }
  | .option => s.writeOption v
  | .pcl => { s with pc := (s.pclath ++ v).cast rfl }
  | .status => s.writeStatus listsFlags v
  | .fsr => { s with fsr := v }
  | .port p => { s with latches := s.latches.set p v, events := .port p v :: s.events }
  | .tris p => s.writeTris p v
  | .pclath => { s with pclath := v.setWidth 5 }
  | .intcon => { s with gie := v.getLsbD 7, intcon := v.setWidth 7 }

/-- The end of an instruction that wrote a location and does not skip: one cycle and `pc + 1`, or two cycles with the
`pc` already set when the location was the program counter's low byte (40_byte_oriented.md R100, R214). -/
def State.finishWrite (s : State) (l : FileLoc) : State :=
  match l with
  | .pcl => { s with cycles := s.cycles + 2 }
  | .plain _ | .null | .tmr0 | .option | .status | .fsr | .port _ | .tris _ | .pclath | .intcon => s.advance

/-! ### Interrupts and resets -/

/-- The conventional sources of INTCON: enable bits INTE = 4, T0IE = 5, RBIE = 3 with flag bits INTF = 1, T0IF = 2,
RBIF = 0 (60_exceptions.md R174). PRESUMED, and in use only with `intSources = intcon`. DESIGN CHOICE: bit 6 gates
nothing, and a request of the device-specific peripheral group is the environment's `IntRequest` as it comes (log 21). -/
def State.sourceRequest (s : State) : Bool :=
  (s.intcon.getLsbD 4 && s.intcon.getLsbD 1) || (s.intcon.getLsbD 5 && s.intcon.getLsbD 2) ||
    (s.intcon.getLsbD 3 && s.intcon.getLsbD 0)

/-- Whether INTCON's own sources count as interrupt sources, and one of them requests. -/
def State.intconRequest (s : State) : Bool :=
  match s.cfg.intSources with
  | .free => false
  | .intcon => s.sourceRequest

/-- The flag bits of INTCON<6:0>, which alone the environment sets (20_memory.md R65, 60_exceptions.md R174): INTF, T0IF,
RBIF of the conventional sources, else those of the device. -/
def requestBits (cfg : Config) : BitVec 7 :=
  match cfg.intSources with
  | .free => cfg.flagBits
  | .intcon => 0b0000111#7

/-- `IntRequest` (60_exceptions.md R174). -/
def State.intRequest (s : State) : Bool := s.env.intRequest || s.intconRequest

/-- Interrupt entry (60_exceptions.md R178), the only exception entry of this hardware (R170):
`Push(pc); GIE <- 0; pc <- INT_VECTOR`, and nothing else. -/
def State.takeInterrupt (s : State) : Except Fault State :=
  match s.push s.pc with
  | .error r => .error r
  | .ok t => .ok { t with gie := false, pc := s.cfg.intVector }

/-- The return from an interrupt (42_literal_control.md R149, 60_exceptions.md R181): `t = Pop(); GIE <- 1; pc <- t`. -/
def State.returnFromInterrupt (s : State) : Except Fault State :=
  match s.pop with
  | .error r => .error r
  | .ok (t, u) => .ok ({ u with gie := true }.jump t)

/-- The causes of a reset other than power-on (70_reset_and_hazards.md R201); power-on is `State.launch`. -/
inductive ResetCause where
  | external
  | externalInSleep
  | wdt
  deriving DecidableEq, Repr

/-- TO after a reset (10_state.md R44, 70_reset_and_hazards.md R201). -/
def ResetCause.timeOut (cause : ResetCause) (now : Bool) : Bool :=
  match cause with
  | .external => now
  | .externalInSleep => true
  | .wdt => false

/-- PD after a reset (10_state.md R44, 70_reset_and_hazards.md R201). -/
def ResetCause.powerDown (cause : ResetCause) (now : Bool) : Bool :=
  match cause with
  | .external => now
  | .externalInSleep => false
  | .wdt => true

/-- The profile registers with their reset values. -/
def State.loadProfile (s : State) : State :=
  { s with
    optionReg := s.cfg.optionReset
    trisRegs := ⟨s.cfg.trisReset, s.cfg.trisReset, s.cfg.trisReset⟩
    rp0 := false
    rp1 := false
    irp := false }

/-- The profile registers after a reset: "as the profile says (P16: OPTION 0xFF, TRIS 0xFF, RP0 = RP1 = IRP = 0)"
(R201). -/
def State.resetProfile (s : State) : State :=
  match s.cfg.profile with
  | .none => s
  | .p16 => s.loadProfile
  | .table _ => s.loadProfile

/-- `Reset(cause)` (70_reset_and_hazards.md R201). DEDUCED: a register R201 does not name keeps its value (log 24). -/
def State.resetBy (s : State) (cause : ResetCause) : State :=
  { s.resetProfile with
    pc := s.cfg.resetVector
    stack := []
    stale := []
    gie := false
    pclath := 0#5
    asleep := false
    wdt := 0
    prescaler := 0
    timeOut := cause.timeOut s.timeOut
    powerDown := cause.powerDown s.powerDown }

end Sys2Proof.Machine
end

