-- ==== Sys2Proof/Machine/Boundary.lean ====
section
/-! DEFINITION. What happens at an instruction boundary before an instruction executes: the environment's input,
resets, the watchdog time-out, sleep and wake-up, interrupt entry (70_reset_and_hazards.md R219). -/

namespace Sys2Proof.Machine

/-- What a boundary decides. -/
inductive Action where
  /-- Execute the instruction at `pc`. -/
  | execute (s : State)
  /-- The step is over: a reset, an interrupt entry, or a core that stays asleep. -/
  | settle (s : State)
  /-- A model fault. -/
  | stop (r : Fault)
  deriving DecidableEq, Repr

/-- The environment's part of a boundary: the next input comes into force, the watchdog and prescaler counts have
advanced, flag bits are set in INTCON and stay set, and no other bit of it changes (60_exceptions.md R174, R176,
20_memory.md R65; which bits are flag bits: log 21). Past the end of the list the environment is quiet (log 19). -/
def State.arrive (s : State) : State :=
  { s with
    env := s.inputs.headD {}
    inputs := s.inputs.tail
    tick := s.tick + 1
    wdt := s.wdt + (s.inputs.headD {}).wdtTicks
    prescaler := s.prescaler + (s.inputs.headD {}).prescalerTicks
    intcon := s.intcon ||| ((s.inputs.headD {}).intFlags &&& requestBits s.cfg) }

/-- The core wakes on the event `Wake` (60_exceptions.md R189), and on a request of INTCON's own sources where they
count as sources, regardless of GIE (R189 case c). DESIGN CHOICE: which requests are a `Wake`, that D12 leaves open: those
of INTCON's own sources always, the environment's `IntRequest` only with a `Wake` beside it (log 35). -/
def State.wakes (s : State) : Bool := s.env.wake || s.intconRequest

/-- `WdtTimeout`, which never happens with the watchdog disabled (60_exceptions.md R186, D11). -/
def State.wdtTimesOut (s : State) : Bool := s.cfg.wdtEnabled && s.env.wdtTimeout

/-- An external reset; asleep or awake it has its own cause (70_reset_and_hazards.md R201, R219). -/
def State.externalReset (s : State) : State :=
  s.resetBy (if s.asleep then .externalInSleep else .external)

/-- A watchdog time-out: asleep it wakes the core with TO 0 and the instruction at `pc` executes, awake it resets
(60_exceptions.md R186, R189 case b). -/
def State.onWdtTimeout (s : State) : Action :=
  if s.asleep then .execute { s with timeOut := false, asleep := false } else .settle (s.resetBy .wdt)

/-- A sleeping core: on `Wake` the instruction at `pc` executes with no interrupt test before it, else no core step
(60_exceptions.md R189). -/
def State.whileAsleep (s : State) : Action :=
  if s.wakes then .execute { s with asleep := false } else .settle s

/-- Interrupt entry as the whole of a step (60_exceptions.md R177, R178). -/
def State.interruptStep (s : State) : Action :=
  match s.takeInterrupt with
  | .ok t => .settle t
  | .error r => .stop r

/-- The recognition condition of an awake core: `GIE = 1 and IntRequest` (60_exceptions.md R177). -/
def State.interruptDue (s : State) : Bool := s.gie && s.intRequest

/-- The choice of R219 with the input in force: an external reset may replace any step; then the watchdog, sleep,
interrupt entry, execution. -/
def State.choose (s : State) : Action :=
  if s.env.externalReset then .settle s.externalReset
  else if s.wdtTimesOut then s.onWdtTimeout
  else if s.asleep then s.whileAsleep
  else if s.interruptDue then s.interruptStep
  else .execute s

/-- A boundary: the environment's part, then the choice. -/
def State.boundary (s : State) : Action := s.arrive.choose

/-- An input without the events that keep the core from executing the instruction at `pc`. -/
def Input.quiet (e : Input) : Input :=
  { e with
    externalReset := false
    wdtTimeout := false
    wake := false
    intRequest := false
    intFlags := 0#7 }

/-- The inputs to come, the first of them quiet. -/
def quietNext : List Input → List Input
  | [] => []
  | e :: rest => e.quiet :: rest

end Sys2Proof.Machine
end

