-- ==== Sys2Proof/Machine/Flags.lean ====
section
/-! DEFINITION. Every computation of a result and its flags (40_byte_oriented.md R101, R102, and the operations of
the instruction rules), and the flags an instruction lists as affected. -/

namespace Sys2Proof.Machine

/-- The flags an instruction's "Status Affected" entry lists, with their new values (00_scope.md R5). TO and PD have
their own operation, `State.setTimePower`. -/
inductive FlagUpdate where
  | unlisted
  | z (z : Bool)
  | c (c : Bool)
  | cdcz (c dc z : Bool)
  deriving DecidableEq, Repr

/-- Whether the instruction lists C, DC or Z as affected. -/
def FlagUpdate.lists : FlagUpdate → Bool
  | .unlisted => false
  | .z _ => true
  | .c _ => true
  | .cdcz _ _ _ => true

/-- Writes the listed flags; every other flag keeps its value (00_scope.md R5). -/
def State.setFlags (s : State) : FlagUpdate → State
  | .unlisted => s
  | .z z => { s with z := z }
  | .c c => { s with c := c }
  | .cdcz c dc z => { s with c := c, dc := dc, z := z }

/-- `z = 1 if r = 0 else 0` (10_state.md R29). -/
def isZero (r : Byte) : Bool := decide (r = 0#8)

/-- A result and the flags computed with it. -/
abbrev Computed := Byte × FlagUpdate

/-- The 8-bit adder with carry-in (40_byte_oriented.md R101): carries out of bit 7 and of bit 3. PRESUMED: C after an
addition, and DC (log 15). -/
def add8 (x y : Byte) (cin : Bool) : Computed :=
  let sum := x.toNat + y.toNat + cin.toNat
  let r := BitVec.ofNat 8 sum
  (r, .cdcz (decide (255 < sum)) (decide (15 < x.toNat % 16 + y.toNat % 16 + cin.toNat)) (isZero r))

/-- `ADD(x, W) = add8(x, W, 0)` (R101). -/
def addition (x w : Byte) : Computed := add8 x w false

/-- `SUB(m, W) = add8(m, ~W & 0xFF, 1)`, which is `m - W` with C meaning no borrow (R101, R209). -/
def subtraction (m w : Byte) : Computed := add8 m (~~~w) true

/-- A result whose instruction lists Z only. -/
def withZero (r : Byte) : Computed := (r, .z (isZero r))

/-- A result whose instruction lists no flag. -/
def withoutFlags (r : Byte) : Computed := (r, .unlisted)

/-- `RL(v, C)`: the old C enters bit 0, bit 7 leaves into C (R102). -/
def rotateLeft (v : Byte) (c : Bool) : Computed :=
  ((v <<< 1) ||| (BitVec.ofBool c).setWidth 8, .c (v.getLsbD 7))

/-- `RR(v, C)`: the old C enters bit 7, bit 0 leaves into C (R102). -/
def rotateRight (v : Byte) (c : Bool) : Computed :=
  (((BitVec.ofBool c).setWidth 8 <<< 7) ||| (v >>> 1), .c (v.getLsbD 0))

/-- `((v & 0x0F) << 4) | (v >> 4)` (R119). -/
def swapNibbles (v : Byte) : Byte := ((v &&& 0x0F#8) <<< 4) ||| (v >>> 4)

/-- The mask `1 << b` of bit `b` (41_bit_oriented.md R130). -/
def bitMask (b : BitVec 3) : Byte := 1#8 <<< b.toNat

/-- `v & ~(1 << b)` (R131). -/
def clearBit (v : Byte) (b : BitVec 3) : Byte := v &&& ~~~(bitMask b)

/-- `v | (1 << b)` (R132). -/
def setBit (v : Byte) (b : BitVec 3) : Byte := v ||| bitMask b

/-- `v[b]` (R130). -/
def testBit (v : Byte) (b : BitVec 3) : Bool := v.getLsbD b.toNat

end Sys2Proof.Machine
end

