-- ==== Sys2Proof/Machine/Operands.lean ====
section
/-! DEFINITION. The operand forms: the location a file field designates, the destination `d`, and the shapes the
instructions share. -/

namespace Sys2Proof.Machine

/-- Whether the device has a port. -/
def portExists (cfg : Config) : Port → Bool
  | .a => cfg.portA
  | .b => cfg.portB
  | .c => cfg.portC

/-- Whether profile P16 has plain storage at a file address: 0x20 to 0x4F on every part, the addresses the device
description lists on this one (10_state.md R42, log 11). -/
def isStorage (cfg : Config) (f : Nat) : Bool :=
  (decide (0x20 ≤ f) && decide (f ≤ 0x4F)) || cfg.storage.any fun range => decide (range.1 ≤ f) && decide (f ≤ range.2)

/-- A location of profile P16 at a port's file address: the port in bank 0, its TRIS register in bank 1 (R42). -/
def portLoc (cfg : Config) (p : Port) (a : Nat) : Except Fault FileLoc :=
  if portExists cfg p then
    match a / 128 with
    | 0 => .ok (.port p)
    | 1 => .ok (.tris p)
    | _ => .error (.unmappedFile a)
  else .error (.unmappedFile a)

/-- The location of profile P16 at a 9-bit data address (10_state.md R42). The registers marked "same in all banks" go
by the low seven bits alone, as does INDF, which reached through FSR is no register (log 12). A part with two banks has
no data address above 0xFF (log 11). -/
def p16Loc (cfg : Config) (a : Nat) : Except Fault FileLoc :=
  if !cfg.fourBanks && decide (256 ≤ a) then .error (.unmappedFile a)
  else
    match a % 128 with
    | 0x00 => .ok .null
    | 0x01 =>
      match a / 128 with
      | 0 => .ok .tmr0
      | 1 => .ok .option
      | _ => .error (.unmappedFile a)
    | 0x02 => .ok .pcl
    | 0x03 => .ok .status
    | 0x04 => .ok .fsr
    | 0x05 => portLoc cfg .a a
    | 0x06 => portLoc cfg .b a
    | 0x07 => portLoc cfg .c a
    | 0x0A => .ok .pclath
    | 0x0B => .ok .intcon
    | f => if isStorage cfg f then .ok (.plain a) else .error (.unmappedFile a)

/-- The location of a data address that a row holds: plain storage runs on from the row's first address. -/
def locationIn (row : MapRow) (a : Nat) : FileLoc :=
  match row.loc with
  | .plain b => .plain (b + (a - row.first))
  | special => special

/-- The location of a data address in the rows of a register map: that of the first row which holds the address. -/
def locate : List MapRow → Nat → Except Fault FileLoc
  | [], a => .error (.unmappedFile a)
  | row :: rest, a => if row.first ≤ a ∧ a ≤ row.last then .ok (locationIn row a) else locate rest a

/-- The value of a bank bit. -/
def State.bankBit (s : State) : BankBit → Bool
  | .rp0 => s.rp0
  | .rp1 => s.rp1
  | .irp => s.irp

/-- The number that bank bits form, most significant first. -/
def State.bankNumber (s : State) (bits : List BankBit) : Nat :=
  bits.foldl (fun n bit => 2 * n + (s.bankBit bit).toNat) 0

/-- The data address of an access under a register map: through FSR at the file address of INDF, else by the file
field, with the map's bank bits above. -/
def State.mapAddress (s : State) (map : RegisterMap) (f : FileField) : Nat :=
  if map.indf = some f then s.bankNumber map.indirect * 256 + s.fsr.toNat
  else s.bankNumber map.direct * 128 + f.toNat

/-- `RP1 : RP0 : f`, the data address of a direct access; a part with two banks ignores RP1 (10_state.md R42). -/
def State.directAddress (s : State) (f : FileField) : Nat :=
  (BitVec.ofBool (s.cfg.fourBanks && s.rp1) ++ BitVec.ofBool s.rp0 ++ f).toNat

/-- `IRP : FSR`, the data address of an indirect access (10_state.md R42). -/
def State.indirectAddress (s : State) : Nat := (BitVec.ofBool s.irp ++ s.fsr).toNat

/-- `ea(f)` (20_memory.md R47): the location the field designates, or `UnmappedFile` where the profile maps none
(R48, R49). -/
def State.ea (s : State) (f : FileField) : Except Fault FileLoc :=
  match s.cfg.profile with
  | .none => .ok (.plain f.toNat)
  | .table map => locate map.rows (s.mapAddress map f)
  | .p16 => if f = 0#7 then p16Loc s.cfg s.indirectAddress else p16Loc s.cfg (s.directAddress f)

/-- `dest(d, f) <- r`, with the listed flags written first (40_byte_oriented.md R100); the `pc` is not yet advanced. -/
def State.toDest (s : State) (l : FileLoc) (d : Dest) (out : Computed) : State :=
  match d with
  | .w => (s.setFlags out.2).setW out.1
  | .f => (s.setFlags out.2).writeLoc l out.2.lists out.1

/-- The end of an instruction with a destination designator. -/
def State.finishDest (s : State) (l : FileLoc) (d : Dest) : State :=
  match d with
  | .w => s.advance
  | .f => s.finishWrite l

/-- The shape of a byte-oriented instruction with operands `f, d` (40_byte_oriented.md R100): `compute` gives the
result and the listed flags from the old `f`. -/
def byteOriented (f : FileField) (d : Dest) (compute : Byte → Computed) (s : State) : Result :=
  match s.ea f with
  | .error r => .fault r
  | .ok l => .next ((s.toDest l d (compute (s.readLoc l))).finishDest l d)

/-- The shape of CLRF and MOVWF: one write, no read (20_memory.md R55). -/
def fileWrite (f : FileField) (out : Computed) (s : State) : Result :=
  match s.ea f with
  | .error r => .fault r
  | .ok l => .next ((s.toDest l .f out).finishWrite l)

/-- The shape of DECFSZ and INCFSZ (40_byte_oriented.md R109, R111): the result to its destination, no flag, a skip if
it is 0; onto the program counter's low byte, `UnspecifiedCombination` with the instruction word (D13). -/
def skipIfZero (f : FileField) (d : Dest) (compute : Byte → Byte) (iw : InstrWord) (s : State) : Result :=
  match s.ea f with
  | .error r => .fault r
  | .ok l =>
    if d = .f ∧ l = .pcl then .fault (.unspecifiedCombination s.pc iw)
    else
      .next ((s.toDest l d (withoutFlags (compute (s.readLoc l)))).skipIf (isZero (compute (s.readLoc l))))

/-- The shape of BTFSC and BTFSS (41_bit_oriented.md R133, R134): a read, no write, a skip on the test. -/
def bitTest (f : FileField) (test : Byte → Bool) (s : State) : Result :=
  match s.ea f with
  | .error r => .fault r
  | .ok l => .next (s.skipIf (test (s.readLoc l)))

/-- The shape of the literal instructions (42_literal_control.md R140): the result to W, the listed flags. -/
def literal (out : Computed) (s : State) : Result := .next ((s.setFlags out.2).setW out.1).advance

/-- The shape of RETURN and RETLW (42_literal_control.md R150, R151): `t = Pop(); pc <- t`, after which `andThen`
writes what else the instruction writes. -/
def returnWith (andThen : State → State) (s : State) : Result :=
  match s.pop with
  | .error r => .fault r
  | .ok (t, u) => .next ((andThen u).jump t)

/-- The port whose TRIS register an operand of TRIS names (43_option_tris.md R161). -/
def trisPort (f : BitVec 3) : Option Port :=
  match f.toNat with
  | 5 => some .a
  | 6 => some .b
  | 7 => some .c
  | _ => none

end Sys2Proof.Machine
end

