-- ==== Sys2Proof/Machine/BitOriented.lean ====
section
/-! DEFINITION. The bit-oriented file register operations (41_bit_oriented.md). -/

namespace Sys2Proof.Machine

/-- R131, BCF: reads `f`, clears bit `b`, writes all eight bits back; no flag. -/
def execBcf (f : FileField) (b : BitVec 3) (s : State) : Result :=
  byteOriented f .f (fun v => withoutFlags (clearBit v b)) s

/-- R132, BSF: reads `f`, sets bit `b`, writes all eight bits back; no flag. -/
def execBsf (f : FileField) (b : BitVec 3) (s : State) : Result :=
  byteOriented f .f (fun v => withoutFlags (setBit v b)) s

/-- R133, BTFSC: skips if bit `b` of `f` is 0; writes nothing. -/
def execBtfsc (f : FileField) (b : BitVec 3) (s : State) : Result := bitTest f (fun v => !testBit v b) s

/-- R134, BTFSS: skips if bit `b` of `f` is 1; writes nothing. -/
def execBtfss (f : FileField) (b : BitVec 3) (s : State) : Result := bitTest f (fun v => testBit v b) s

end Sys2Proof.Machine
end

