-- ==== Sys2Proof/Machine/ByteOriented.lean ====
section
/-! DEFINITION. The byte-oriented file register operations (40_byte_oriented.md). -/

namespace Sys2Proof.Machine

/-- R103, ADDWF: `(f) + W`, with C, DC, Z. -/
def execAddwf (f : FileField) (d : Dest) (s : State) : Result :=
  byteOriented f d (fun v => addition v s.w) s

/-- R104, ANDWF: `W & (f)`, with Z. -/
def execAndwf (f : FileField) (d : Dest) (s : State) : Result :=
  byteOriented f d (fun v => withZero (s.w &&& v)) s

/-- R105, CLRF: 0x00 to `f`, Z set. -/
def execClrf (f : FileField) (s : State) : Result := fileWrite f (withZero 0x00#8) s

/-- R106, CLRW: 0x00 to W, Z set; no data memory access. -/
def execClrw (s : State) : Result := literal (withZero 0x00#8) s

/-- R107, COMF: the complement of `(f)`, with Z. -/
def execComf (f : FileField) (d : Dest) (s : State) : Result :=
  byteOriented f d (fun v => withZero (~~~v)) s

/-- R108, DECF: `((f) - 1) mod 256`, with Z. -/
def execDecf (f : FileField) (d : Dest) (s : State) : Result :=
  byteOriented f d (fun v => withZero (v - 1#8)) s

/-- R109, DECFSZ: `((f) - 1) mod 256`, no flag, skip if 0. -/
def execDecfsz (f : FileField) (d : Dest) (s : State) : Result :=
  skipIfZero f d (fun v => v - 1#8) (encode (.decfsz f d)) s

/-- R110, INCF: `((f) + 1) mod 256`, with Z. -/
def execIncf (f : FileField) (d : Dest) (s : State) : Result :=
  byteOriented f d (fun v => withZero (v + 1#8)) s

/-- R111, INCFSZ: `((f) + 1) mod 256`, no flag, skip if 0. -/
def execIncfsz (f : FileField) (d : Dest) (s : State) : Result :=
  skipIfZero f d (fun v => v + 1#8) (encode (.incfsz f d)) s

/-- R112, IORWF: `W | (f)`, with Z. -/
def execIorwf (f : FileField) (d : Dest) (s : State) : Result :=
  byteOriented f d (fun v => withZero (s.w ||| v)) s

/-- R113, MOVF: `(f)`, with Z; with `d = 1` the write-back happens. -/
def execMovf (f : FileField) (d : Dest) (s : State) : Result := byteOriented f d withZero s

/-- R114, MOVWF: W to `f`, no flag. -/
def execMovwf (f : FileField) (s : State) : Result := fileWrite f (withoutFlags s.w) s

/-- R115, NOP: nothing but `pc + 1`. -/
def execNop (s : State) : Result := .next s.advance

/-- R116, RLF: `(f)` rotated left through C. -/
def execRlf (f : FileField) (d : Dest) (s : State) : Result :=
  byteOriented f d (fun v => rotateLeft v s.c) s

/-- R117, RRF: `(f)` rotated right through C. -/
def execRrf (f : FileField) (d : Dest) (s : State) : Result :=
  byteOriented f d (fun v => rotateRight v s.c) s

/-- R118, SUBWF: `((f) - W) mod 256`, with C, DC, Z. -/
def execSubwf (f : FileField) (d : Dest) (s : State) : Result :=
  byteOriented f d (fun v => subtraction v s.w) s

/-- R119, SWAPF: the nibbles of `(f)` exchanged, no flag. -/
def execSwapf (f : FileField) (d : Dest) (s : State) : Result :=
  byteOriented f d (fun v => withoutFlags (swapNibbles v)) s

/-- R120, XORWF: `W ^ (f)`, with Z. -/
def execXorwf (f : FileField) (d : Dest) (s : State) : Result :=
  byteOriented f d (fun v => withZero (s.w ^^^ v)) s

end Sys2Proof.Machine
end

