-- ==== Sys2Proof/Machine/LiteralControl.lean ====
section
/-! DEFINITION. The literal and control operations (42_literal_control.md). -/

namespace Sys2Proof.Machine

/-- R141, ADDLW: `W + k`, with C, DC, Z. -/
def execAddlw (k : Byte) (s : State) : Result := literal (addition k s.w) s

/-- R142, ANDLW: `W & k`, with Z. -/
def execAndlw (k : Byte) (s : State) : Result := literal (withZero (s.w &&& k)) s

/-- R143, CALL: `Push(pc + 1)`, then `pc <- PCLATH[4:3] : k`. -/
def execCall (k : BitVec 11) (s : State) : Result :=
  match s.push (s.pc + 1#13) with
  | .error r => .fault r
  | .ok t => .next (t.jump (s.pageTarget k))

/-- R145, CLRWDT: the watchdog and its prescaler to 0, TO and PD to 1. -/
def execClrwdt (s : State) : Result := .next (s.clearWatchdog.setTimePower true true).advance

/-- R146, GOTO: `pc <- PCLATH[4:3] : k`. -/
def execGoto (k : BitVec 11) (s : State) : Result := .next (s.jump (s.pageTarget k))

/-- R147, IORLW: `W | k`, with Z. -/
def execIorlw (k : Byte) (s : State) : Result := literal (withZero (s.w ||| k)) s

/-- R148, MOVLW: `k`, no flag. -/
def execMovlw (k : Byte) (s : State) : Result := literal (withoutFlags k) s

/-- R149, RETFIE: the return from an interrupt. -/
def execRetfie (s : State) : Result :=
  match s.returnFromInterrupt with
  | .error r => .fault r
  | .ok t => .next t

/-- R150, RETLW: `t = Pop(); W <- k; pc <- t`. -/
def execRetlw (k : Byte) (s : State) : Result := returnWith (fun u => u.setW k) s

/-- R151, RETURN: `pc <- Pop()`. -/
def execReturn (s : State) : Result := returnWith (fun u => u) s

/-- R152, SLEEP: the watchdog and its prescaler to 0, TO to 1, PD to 0, asleep. -/
def execSleep (s : State) : Result :=
  .next { s.clearWatchdog.setTimePower true false with asleep := true }.advance

/-- R153, SUBLW: `k - W`, with C, DC, Z. -/
def execSublw (k : Byte) (s : State) : Result := literal (subtraction k s.w) s

/-- R154, XORLW: `W ^ k`, with Z. -/
def execXorlw (k : Byte) (s : State) : Result := literal (withZero (s.w ^^^ k)) s

end Sys2Proof.Machine
end

