-- ==== Sys2Proof/Machine/OptionTris.lean ====
section
/-! DEFINITION. OPTION and TRIS (43_option_tris.md). -/

namespace Sys2Proof.Machine

/-- R160, OPTION: W to the OPTION register, which the opcode itself names. -/
def execOption (s : State) : Result := .next (s.writeOption s.w).advance

/-- R161, TRIS: W to the TRIS register numbered `f`, whether or not the part has the port; the operands 5, 6, 7 are
all there are, and a term with another is refused. -/
def execTris (f : BitVec 3) (s : State) : Result :=
  match trisPort f with
  | some p => .next (s.writeTris p s.w).advance
  | none => .refused (.trisOperand f)

end Sys2Proof.Machine
end

