-- ==== Sys2Proof/Machine/Fetch.lean ====
section
/-! DEFINITION. Fetching and decoding the instruction at `pc` (20_memory.md R46, 70_reset_and_hazards.md R219). -/

namespace Sys2Proof.Machine

/-- The program word that `pc` selects: `pc` itself below `PROG_WORDS`; beyond it `FetchOutOfRange`, or the
alternative of R46, the implemented words repeated. DESIGN CHOICE: they repeat every `PROG_WORDS` words; for a number of
words that is no power of two, to ignore upper address bits would give other words (log 9). -/
def State.fetchAddress (s : State) : Except Fault Nat :=
  if s.pc.toNat < s.cfg.progWords then .ok s.pc.toNat
  else
    match s.cfg.fetchPolicy with
    | .fault => .error (.fetchOutOfRange s.pc)
    | .wrap => .ok (s.pc.toNat % s.cfg.progWords)

/-- `iw = ProgRead(pc)`. -/
def State.fetch (s : State) : Except Fault InstrWord :=
  match s.fetchAddress with
  | .error r => .error r
  | .ok a =>
    match Memory.read s.prog a with
    | none => .error (.unloadedWord s.pc)
    | some iw => .ok iw

/-- `i = decode(iw)`: an unassigned word that is to be executed raises `UnassignedOpcode` (30_encoding.md R82). -/
def State.fetchInstr (s : State) : Except Fault Instr :=
  match s.fetch with
  | .error r => .error r
  | .ok iw =>
    match decode iw with
    | .error _ => .error (.unassignedOpcode s.pc iw)
    | .ok i => .ok i

end Sys2Proof.Machine
end

