-- ==== Sys2Proof/Machine/Step.lean ====
section
/-! DEFINITION. One step of the core (70_reset_and_hazards.md R219). -/

namespace Sys2Proof.Machine

/-- Fetches, decodes and executes the instruction at `pc`. -/
def State.runAtPc (s : State) : Host.Outcome State Fault Refusal :=
  match s.fetchInstr with
  | .error r => .fault r
  | .ok i => exec i s

/-- One step: the boundary, and the instruction at `pc` if the boundary says so. -/
def step (s : State) : Host.Outcome State Fault Refusal :=
  match s.boundary with
  | .execute t => t.runAtPc
  | .settle t => .next t
  | .stop r => .fault r

/-- The state with a program word loaded where the next step fetches, and nothing before it that would keep that
step from executing it: awake, the next input quiet, no request of INTCON's own sources let through. The load stands
for the launch's program memory contents (70_reset_and_hazards.md R222, log 8). Where `pc` selects no program word,
nothing can be loaded. -/
def State.withFetchWord (s : State) (nbits w : Nat) : State :=
  match s.fetchAddress with
  | .error _ => s
  | .ok a =>
    { s with
      prog := Memory.write s.prog a (BitVec.ofNat 14 (w % 2 ^ nbits))
      asleep := false
      gie := s.gie && !s.intconRequest
      inputs := quietNext s.inputs }

end Sys2Proof.Machine
end

