-- ==== Sys2Proof/Safety.lean ====
section
/-! DEFINITION. The terms the claims use: what an instruction writes and what it leaves, the invariant, and the
end-of-run conventions of 70_reset_and_hazards.md R221. -/

namespace Sys2Proof.Machine

/-! ### What an instruction writes, and the frame -/

/-- What no instruction with a W or file destination writes, the return stack apart: the parameters, program memory,
TO, PD, the watchdog counter, the sleep state, and the environment's fields. -/
def SameControl (s t : State) : Prop :=
  t.cfg = s.cfg ∧ t.prog = s.prog ∧ t.timeOut = s.timeOut ∧ t.powerDown = s.powerDown ∧ t.wdt = s.wdt ∧
    t.asleep = s.asleep ∧ t.env = s.env ∧ t.inputs = s.inputs ∧ t.tick = s.tick

/-- The return stack is unchanged. -/
def SameStack (s t : State) : Prop := t.stack = s.stack ∧ t.stale = s.stale

/-- Every byte of data memory and every special file register but the flags and the program counter is unchanged, and
no device write was made. -/
def SameFiles (s t : State) : Prop :=
  (∀ a, Memory.read t.data a = Memory.read s.data a) ∧ t.fsr = s.fsr ∧ t.pclath = s.pclath ∧ t.gie = s.gie ∧
    t.intcon = s.intcon ∧ t.rp0 = s.rp0 ∧ t.rp1 = s.rp1 ∧ t.irp = s.irp ∧ t.optionReg = s.optionReg ∧
    t.trisRegs = s.trisRegs ∧ t.latches = s.latches ∧ t.tmr0 = s.tmr0 ∧ t.prescaler = s.prescaler ∧
    t.events = s.events

/-- C, DC and Z are unchanged. -/
def SameFlags (s t : State) : Prop := t.c = s.c ∧ t.dc = s.dc ∧ t.z = s.z

/-- `pc <- (pc + 1) mod 8192` in one cycle (10_state.md R20, 70_reset_and_hazards.md R214; the wrap is D2, log 30). -/
def Falls (s t : State) : Prop := t.pc.toNat = (s.pc.toNat + 1) % 8192 ∧ t.cycles = s.cycles + 1

/-- The end of a skip instruction: two words on in two cycles if it skips, else one word on in one (10_state.md R21,
70_reset_and_hazards.md R214). -/
def Skips (s t : State) (test : Prop) : Prop :=
  (test → t.pc.toNat = (s.pc.toNat + 2) % 8192 ∧ t.cycles = s.cycles + 2) ∧ (¬test → Falls s t)

/-- The events after the byte `r` is written to the location `l`: a device write is one event (20_memory.md R49, R65). -/
def eventsAfter (s : State) (l : FileLoc) (r : Byte) : List Event :=
  match l with
  | .tmr0 => .tmr0 r :: s.events
  | .option => .option r :: s.events
  | .port p => .port p r :: s.events
  | .tris p => .tris p r :: s.events
  | .plain _ | .null | .pcl | .status | .fsr | .pclath | .intcon => s.events

/-- One bit of STATUS after the byte `r` is written over it: the bit of `r` in its place, if it has one. -/
def StatusBitWritten (place : Option (BitVec 3)) (r : Byte) (old new : Bool) : Prop :=
  (∀ n, place = some n → new = r.getLsbD n.toNat) ∧ (place = none → new = old)

/-- The byte `r` written to the location `l` (20_memory.md R49, R53; 10_state.md R42): the one location takes it, every
other keeps its value. The flags and the program counter stand apart. PCLATH takes five bits (10_state.md R42; in other
maps, log 34). -/
def FileWritten (s t : State) (l : FileLoc) (r : Byte) : Prop :=
  (∀ a, Memory.read t.data a = if l = .plain a then some r else Memory.read s.data a) ∧
    (t.fsr = if l = .fsr then r else s.fsr) ∧
    (t.pclath = if l = .pclath then r.extractLsb' 0 5 else s.pclath) ∧
    (t.gie = if l = .intcon then r.getLsbD 7 else s.gie) ∧
    (t.intcon = if l = .intcon then r.extractLsb' 0 7 else s.intcon) ∧
    (if l = .status then
      StatusBitWritten (statusLayout s.cfg).rp0 r s.rp0 t.rp0 ∧
        StatusBitWritten (statusLayout s.cfg).rp1 r s.rp1 t.rp1 ∧
        StatusBitWritten (statusLayout s.cfg).irp r s.irp t.irp
    else t.rp0 = s.rp0 ∧ t.rp1 = s.rp1 ∧ t.irp = s.irp) ∧
    (t.optionReg = if l = .option then r else s.optionReg) ∧
    (∀ p, t.trisRegs.get p = if l = .tris p then r else s.trisRegs.get p) ∧
    (∀ p, t.latches.get p = if l = .port p then r else s.latches.get p) ∧
    (t.tmr0 = if l = .tmr0 then r else s.tmr0) ∧
    (t.prescaler = if l = .tmr0 ∧ s.prescalerToTimer0 = true then 0 else s.prescaler) ∧
    t.events = eventsAfter s l r

/-- C, DC and Z of an instruction that lists no flag: changed only as data bits of STATUS (10_state.md R42). -/
def FlagsAsData (s t : State) (l : FileLoc) (d : Dest) (r : Byte) : Prop :=
  if d = .f ∧ l = .status then
    StatusBitWritten (statusLayout s.cfg).c r s.c t.c ∧ StatusBitWritten (statusLayout s.cfg).dc r s.dc t.dc ∧
      StatusBitWritten (statusLayout s.cfg).z r s.z t.z
  else SameFlags s t

/-- `dest(d, f) <- r` (40_byte_oriented.md R100), the flags and the program counter apart: to W, or to the location
`l` of the file operand; everything else is unchanged. -/
def Delivered (s t : State) (l : FileLoc) (d : Dest) (r : Byte) : Prop :=
  SameControl s t ∧ SameStack s t ∧
    match d with
    | .w => t.w = r ∧ SameFiles s t
    | .f => t.w = s.w ∧ FileWritten s t l r

/-- The next address after a delivery: `PCLATH[4:0] : r` in two cycles if the byte went to the program counter's low
byte (10_state.md R22), else the next word in one. -/
def DeliveredPc (s t : State) (l : FileLoc) (d : Dest) (r : Byte) : Prop :=
  if d = .f ∧ l = .pcl then t.pc.toNat = s.pclath.toNat * 256 + r.toNat ∧ t.cycles = s.cycles + 2 else Falls s t

/-- All but W, the flags, the program counter and the cycle count is unchanged. -/
def SameAround (s t : State) : Prop := SameControl s t ∧ SameStack s t ∧ SameFiles s t

/-- C and DC are unchanged and Z says whether the result is zero (10_state.md R29). -/
def ZeroOnly (s t : State) (r : Byte) : Prop := t.c = s.c ∧ t.dc = s.dc ∧ (t.z = true ↔ r = 0#8)

/-- C, DC and Z after an addition whose unreduced sums, of the bytes and of their low nibbles, are given
(40_byte_oriented.md R101). -/
def SumFlags (t : State) (sum low : Nat) : Prop :=
  (t.c = true ↔ 256 ≤ sum) ∧ (t.dc = true ↔ 16 ≤ low) ∧ (t.z = true ↔ sum % 256 = 0)

/-- C, DC and Z after the subtraction `m - w` (40_byte_oriented.md R101, R209): C and DC mean no borrow. -/
def DifferenceFlags (t : State) (m w : Byte) : Prop :=
  (t.c = true ↔ w.toNat ≤ m.toNat) ∧ (t.dc = true ↔ w.toNat % 16 ≤ m.toNat % 16) ∧ (t.z = true ↔ m = w)

/-- The address CALL and GOTO go to: `pc[10:0] = k`, `pc[12:11] = PCLATH[4:3]`, in two cycles (42_literal_control.md
R143, R144, R146). -/
def PageJump (s t : State) (k : BitVec 11) : Prop :=
  t.pc.extractLsb' 0 11 = k ∧ t.pc.extractLsb' 11 2 = s.pclath.extractLsb' 3 2 ∧ t.cycles = s.cycles + 2

/-- What the three returns have in common (42_literal_control.md R149, R150, R151): the program counter and the stack
written, in two cycles. W, GIE and the special file registers stand apart. -/
def ReturnedTo (s t : State) (p : ProgAddr) (stack stale : List ProgAddr) : Prop :=
  t.pc = p ∧ t.stack = stack ∧ t.stale = stale ∧ t.cycles = s.cycles + 2 ∧ SameFlags s t ∧ SameControl s t

/-- The profile's registers hold what a reset puts there: in P16 0xFF in OPTION and the TRIS registers and 0 in the bank
bits (10_state.md R43, 70_reset_and_hazards.md R201), in another map what the map says,
and by the model's choice 0 in its bank bits (log 34). -/
def ProfileRegistersReset (t : State) : Prop :=
  (t.cfg.profile = .p16 → t.optionReg = 0xFF#8 ∧ ∀ p, t.trisRegs.get p = 0xFF#8) ∧
    (∀ map, t.cfg.profile = .table map → t.optionReg = map.optionReset ∧ ∀ p, t.trisRegs.get p = map.trisReset) ∧
    (t.cfg.profile ≠ .none → t.rp0 = false ∧ t.rp1 = false ∧ t.irp = false)

/-- What `Reset(cause)` leaves (70_reset_and_hazards.md R201), TO and PD apart. What R201 does not name is unchanged
(DEDUCED, log 24), the cycle count and the event log among it. -/
def ResetLeft (s t : State) : Prop :=
  t.pc = s.cfg.resetVector ∧ t.stack = [] ∧ t.stale = [] ∧ t.gie = false ∧ t.pclath = 0#5 ∧ t.asleep = false ∧
    t.wdt = 0 ∧ t.prescaler = 0 ∧ t.w = s.w ∧ SameFlags s t ∧
    (∀ a, Memory.read t.data a = Memory.read s.data a) ∧ t.fsr = s.fsr ∧ t.intcon = s.intcon ∧ t.tmr0 = s.tmr0 ∧
    t.latches = s.latches ∧ t.cycles = s.cycles ∧ t.events = s.events ∧ t.cfg = s.cfg ∧ t.prog = s.prog ∧
    t.env = s.env ∧ t.inputs = s.inputs ∧ t.tick = s.tick ∧ ProfileRegistersReset t ∧
    (s.cfg.profile = .none →
      t.optionReg = s.optionReg ∧ t.trisRegs = s.trisRegs ∧ t.rp0 = s.rp0 ∧ t.rp1 = s.rp1 ∧ t.irp = s.irp)

/-! ### The file register map -/

/-- A port's register pair at the data addresses `n` and `128 + n` (10_state.md R42): the port in bank 0 and its TRIS
register in bank 1, on a part that has the port. DESIGN CHOICE: nothing in banks 2 and 3 (log 11). -/
def PortPair (present : Bool) (n : Nat) (p : Port) (a : Nat) (l : Except Fault FileLoc) : Prop :=
  (present = true → a = n → l = .ok (.port p)) ∧ (present = true → a = 128 + n → l = .ok (.tris p)) ∧
    (present = true → a = 256 + n ∨ a = 384 + n → l = .error (.unmappedFile a)) ∧
    (present = false → a % 128 = n → l = .error (.unmappedFile a))

/-- The map of profile P16 (10_state.md R42): `l` is what the data address `a` designates. -/
def P16Map (cfg : Config) (a : Nat) (l : Except Fault FileLoc) : Prop :=
  (a % 128 = 0x00 → l = .ok .null) ∧
    (a = 0x01 → l = .ok .tmr0) ∧ (a = 0x81 → l = .ok .option) ∧
    (a = 0x101 ∨ a = 0x181 → l = .error (.unmappedFile a)) ∧
    (a % 128 = 0x02 → l = .ok .pcl) ∧ (a % 128 = 0x03 → l = .ok .status) ∧ (a % 128 = 0x04 → l = .ok .fsr) ∧
    PortPair cfg.portA 0x05 .a a l ∧ PortPair cfg.portB 0x06 .b a l ∧ PortPair cfg.portC 0x07 .c a l ∧
    (a % 128 = 0x0A → l = .ok .pclath) ∧ (a % 128 = 0x0B → l = .ok .intcon) ∧
    (0x20 ≤ a % 128 → a % 128 ≤ 0x4F → l = .ok (.plain a)) ∧
    (a % 128 = 0x08 ∨ a % 128 = 0x09 ∨ (0x0C ≤ a % 128 ∧ a % 128 ≤ 0x1F) ∨ 0x50 ≤ a % 128 →
      ((∃ range ∈ cfg.storage, range.1 ≤ a % 128 ∧ a % 128 ≤ range.2) → l = .ok (.plain a)) ∧
        ((∀ range ∈ cfg.storage, a % 128 < range.1 ∨ range.2 < a % 128) → l = .error (.unmappedFile a)))

/-- The map of another profile: `l` is what the data address `a` designates by the first of the rows that holds it. -/
def TableMap (map : RegisterMap) (a : Nat) (l : Except Fault FileLoc) : Prop :=
  ((∀ row ∈ map.rows, a < row.first ∨ row.last < a) → l = .error (.unmappedFile a)) ∧
    ∀ before row after, map.rows = before ++ row :: after → (∀ r ∈ before, a < r.first ∨ r.last < a) →
      row.first ≤ a → a ≤ row.last →
        (∀ b, row.loc = .plain b → l = .ok (.plain (b + (a - row.first)))) ∧
          ((∀ b, row.loc ≠ .plain b) → l = .ok row.loc)

/-! ### The instructions by what they do -/

/-- The file register operand, where there is one (TRIS names a register by number, not by file address). -/
def fileOperand : Instr → Option FileField
  | .addwf f _ | .andwf f _ | .clrf f | .comf f _ | .decf f _ | .decfsz f _ | .incf f _ | .incfsz f _ | .iorwf f _
  | .movf f _ | .movwf f | .rlf f _ | .rrf f _ | .subwf f _ | .swapf f _ | .xorwf f _ | .bcf f _ | .bsf f _
  | .btfsc f _ | .btfss f _ => some f
  | .clrw | .nop | .addlw _ | .andlw _ | .call _ | .clrwdt | .goto _ | .iorlw _ | .movlw _ | .retfie | .retlw _
  | .ret | .sleep | .sublw _ | .xorlw _ | .option | .tris _ => none

/-- The file register an instruction writes, where its destination is one. -/
def fileDest : Instr → Option FileField
  | .addwf f .f | .andwf f .f | .clrf f | .comf f .f | .decf f .f | .decfsz f .f | .incf f .f | .incfsz f .f
  | .iorwf f .f | .movf f .f | .movwf f | .rlf f .f | .rrf f .f | .subwf f .f | .swapf f .f | .xorwf f .f
  | .bcf f _ | .bsf f _ => some f
  | .addwf _ .w | .andwf _ .w | .comf _ .w | .decf _ .w | .decfsz _ .w | .incf _ .w | .incfsz _ .w | .iorwf _ .w
  | .movf _ .w | .rlf _ .w | .rrf _ .w | .subwf _ .w | .swapf _ .w | .xorwf _ .w | .btfsc _ _ | .btfss _ _
  | .clrw | .nop | .addlw _ | .andlw _ | .call _ | .clrwdt | .goto _ | .iorlw _ | .movlw _ | .retfie | .retlw _
  | .ret | .sleep | .sublw _ | .xorlw _ | .option | .tris _ => none

/-- The instruction writes the location `l` as its file destination. -/
def WritesLoc (i : Instr) (s : State) (l : FileLoc) : Prop := ∃ f, fileDest i = some f ∧ s.ea f = .ok l

/-- CALL, GOTO and the returns, which set the program counter themselves. -/
def isJump : Instr → Bool
  | .call _ | .goto _ | .ret | .retlw _ | .retfie => true
  | .addwf _ _ | .andwf _ _ | .clrf _ | .clrw | .comf _ _ | .decf _ _ | .decfsz _ _ | .incf _ _ | .incfsz _ _
  | .iorwf _ _ | .movf _ _ | .movwf _ | .nop | .rlf _ _ | .rrf _ _ | .subwf _ _ | .swapf _ _ | .xorwf _ _
  | .bcf _ _ | .bsf _ _ | .btfsc _ _ | .btfss _ _ | .addlw _ | .andlw _ | .clrwdt | .iorlw _ | .movlw _ | .sleep
  | .sublw _ | .xorlw _ | .option | .tris _ => false

/-- "Four instructions can skip" (10_state.md R21). -/
def isSkip : Instr → Bool
  | .btfsc _ _ | .btfss _ _ | .decfsz _ _ | .incfsz _ _ => true
  | .addwf _ _ | .andwf _ _ | .clrf _ | .clrw | .comf _ _ | .decf _ _ | .incf _ _ | .iorwf _ _ | .movf _ _
  | .movwf _ | .nop | .rlf _ _ | .rrf _ _ | .subwf _ _ | .swapf _ _ | .xorwf _ _ | .bcf _ _ | .bsf _ _ | .addlw _
  | .andlw _ | .call _ | .clrwdt | .goto _ | .iorlw _ | .movlw _ | .retfie | .retlw _ | .ret | .sleep | .sublw _
  | .xorlw _ | .option | .tris _ => false

/-- The five status flags (10_state.md R32). -/
inductive Flag where
  | c
  | dc
  | z
  | timeOut
  | powerDown
  deriving DecidableEq, Repr

/-- The value of a flag. -/
def State.flag (s : State) : Flag → Bool
  | .c => s.c
  | .dc => s.dc
  | .z => s.z
  | .timeOut => s.timeOut
  | .powerDown => s.powerDown

/-- The "Status Affected" entry of each instruction, from the instruction rules of files 40 to 43. -/
def statusAffected : Instr → List Flag
  | .addwf _ _ | .subwf _ _ | .addlw _ | .sublw _ => [.c, .dc, .z]
  | .andwf _ _ | .clrf _ | .clrw | .comf _ _ | .decf _ _ | .incf _ _ | .iorwf _ _ | .movf _ _ | .xorwf _ _
  | .andlw _ | .iorlw _ | .xorlw _ => [.z]
  | .rlf _ _ | .rrf _ _ => [.c]
  | .clrwdt | .sleep => [.timeOut, .powerDown]
  | .decfsz _ _ | .incfsz _ _ | .movwf _ | .nop | .swapf _ _ | .bcf _ _ | .bsf _ _ | .btfsc _ _ | .btfss _ _
  | .call _ | .goto _ | .movlw _ | .retfie | .retlw _ | .ret | .option | .tris _ => []

/-- An instruction executed over and over. -/
def execTimes : Nat → Instr → State → Result
  | 0, _, s => .next s
  | n + 1, i, s =>
    match exec i s with
    | .next t => execTimes n i t
    | .fault r => .fault r
    | .refused r => .refused r

/-- The environment raises no event at the boundary before the core's own choice: no external reset, no watchdog
time-out (70_reset_and_hazards.md R219). -/
def NoResetDue (s : State) : Prop :=
  (s.inputs.headD {}).externalReset = false ∧ (s.cfg.wdtEnabled = false ∨ (s.inputs.headD {}).wdtTimeout = false)

/-- The words no instruction is assigned to (30_encoding.md R81). -/
def Unassigned (iw : InstrWord) : Prop :=
  (0x0001 ≤ iw.toNat ∧ iw.toNat ≤ 0x0007) ∨ (0x000A ≤ iw.toNat ∧ iw.toNat ≤ 0x001F) ∨
    (0x0021 ≤ iw.toNat ∧ iw.toNat ≤ 0x003F) ∨ (0x0041 ≤ iw.toNat ∧ iw.toNat ≤ 0x005F) ∨ iw.toNat = 0x0061 ∨
    (0x0068 ≤ iw.toNat ∧ iw.toNat ≤ 0x007F) ∨ (0x3B00 ≤ iw.toNat ∧ iw.toNat ≤ 0x3BFF)

/-! ### The invariant -/

/-- Whether a data address is plain storage of this part (20_memory.md R47, R50). -/
def isPlainAddress (cfg : Config) (a : Nat) : Bool :=
  match cfg.profile with
  | .none => decide (a < 128)
  | .p16 => decide (a < 512) && decide (p16Loc cfg a = .ok (.plain a))
  | .table map =>
    map.rows.any fun row =>
      match row.loc with
      | .plain b => decide (b ≤ a) && decide (a ≤ b + (row.last - row.first))
      | _ => false

/-- The stack holds at most `STACK_DEPTH` entries, live or stale; under `fault` no slot is stale (10_state.md R23, R24). -/
def State.stackInv (s : State) : Bool :=
  match s.cfg.stackPolicy with
  | .fault => decide (s.stack.length ≤ s.cfg.stackDepth) && decide (s.stale = [])
  | .circular => decide (s.stack.length + s.stale.length ≤ s.cfg.stackDepth)

/-- The invariant: the parameters are within their bounds, both memories have their canonical form, data memory lists
plain storage only, and the stack is within its depth. -/
def State.inv (s : State) : Bool :=
  s.cfg.wf && Memory.wf s.data && Memory.wf s.prog && s.data.all (fun cell => isPlainAddress s.cfg cell.1) &&
    s.stackInv

/-! ### Safe runs and the end of a run -/

/-- A step that stops with no fault and no refusal. -/
def SafeStep (s : State) : Prop := ∃ t, step s = .next t

/-- A run of `n` steps with no fault and no refusal. -/
def SafeRun (n : Nat) (s : State) : Prop := ∃ t, Sys2Proof.core.run n s = .next t

/-- INTCON<6:0> when every input to come has set its flag bits, and software has cleared none. -/
def State.intconToCome (s : State) : BitVec 7 :=
  s.inputs.foldl (fun bits e => bits ||| (e.intFlags &&& requestBits s.cfg)) s.intcon

/-- No source of INTCON will request, whatever flag bits the inputs to come set. -/
def NoIntconRequest (s : State) : Prop := { s with intcon := s.intconToCome }.intconRequest = false

/-- `IntRequest` will never be true (60_exceptions.md R174). -/
def NeverRequested (s : State) : Prop := (∀ e ∈ s.inputs, e.intRequest = false) ∧ NoIntconRequest s

/-- None of the events that end sleep will come (60_exceptions.md R189): no `Wake`, no request of an enabled source of
INTCON, no external reset, no watchdog time-out. -/
def NeverWoken (s : State) : Prop :=
  (∀ e ∈ s.inputs, e.wake = false ∧ e.externalReset = false ∧ (s.cfg.wdtEnabled = true → e.wdtTimeout = false)) ∧
    NoIntconRequest s

/-- The end of a run by sleep (70_reset_and_hazards.md R221 b): asleep, and no event will wake the core. -/
def Quiescent (s : State) : Prop := s.asleep = true ∧ NeverWoken s

/-- The end of a run by self-loop (70_reset_and_hazards.md R221 a): awake, the instruction at `pc` is a GOTO to
itself, and no interrupt can be taken: GIE is 0 or `IntRequest` is never true. -/
def SelfLoop (s : State) : Prop :=
  s.asleep = false ∧ (s.gie = false ∨ NeverRequested s) ∧
    ∃ k, s.fetchInstr = .ok (.goto k) ∧ s.pageTarget k = s.pc

/-- Only the environment has acted from `s` to `t`: its own fields, its counts, and the flag bits it sets in INTCON, of
which it clears none and where it changes no other bit (20_memory.md R65, 60_exceptions.md R174). -/
def OnlyEnvironment (s t : State) : Prop :=
  t = { s with
    env := t.env, inputs := t.inputs, tick := t.tick, wdt := t.wdt, prescaler := t.prescaler, intcon := t.intcon } ∧
    (∀ n, s.intcon.getLsbD n = true → t.intcon.getLsbD n = true) ∧
    (∀ n, (requestBits s.cfg).getLsbD n = false → t.intcon.getLsbD n = s.intcon.getLsbD n)

end Sys2Proof.Machine
end

