-- ==== Sys2Proof/Certificates/Slice0/Obligations.lean ====
section
/-! DEFINITION. The statements about the model, for the provers. -/

open Sys2Proof
open Sys2Proof.Machine

/-! ### Encoding -/

/-- 30_encoding.md R68 to R72, R76 to R80, R89: every bit of every operand survives encoding and decoding. -/
def Obligations.EveryWellFormedInstructionDecodesFromItsWord : Prop :=
  ∀ i : Instr, i.wf = true → decode (encode i) = .ok i

/-- R75 to R80: a word decodes to the instruction whose row of the tables it lies in, with its operands in range. -/
def Obligations.DecodedWordLiesInItsRow : Prop :=
  ∀ (iw : InstrWord) (i : Instr), decode iw = .ok i → i.wf = true ∧ iw &&& i.maskMatch.1 = i.maskMatch.2

/-- R81: the words that do not decode are the listed ones, each rejected by its own value; every other word is an
instruction. -/
def Obligations.UndecodedExactlyOnTheUnassignedWords : Prop :=
  ∀ iw : InstrWord,
    (Unassigned iw → decode iw = .error (.unassigned iw)) ∧ (¬Unassigned iw → ∃ i, decode iw = .ok i)

/-- R74: each of the six instructions with don't-care bits decodes whatever those bits are, and its canonical word has
every one of them 0. -/
def Obligations.DontCareBitsDoNotMatter : Prop :=
  (∀ iw : InstrWord,
    (iw &&& 0x3F80#14 = 0x0100#14 → decode iw = .ok .clrw) ∧
      (iw &&& 0x3F9F#14 = 0x0000#14 → decode iw = .ok .nop) ∧
      (iw &&& 0x3C00#14 = 0x3000#14 → decode iw = .ok (.movlw (iw.extractLsb' 0 8))) ∧
      (iw &&& 0x3C00#14 = 0x3400#14 → decode iw = .ok (.retlw (iw.extractLsb' 0 8))) ∧
      (iw &&& 0x3E00#14 = 0x3E00#14 → decode iw = .ok (.addlw (iw.extractLsb' 0 8))) ∧
      (iw &&& 0x3E00#14 = 0x3C00#14 → decode iw = .ok (.sublw (iw.extractLsb' 0 8)))) ∧
  encode .clrw = 0x0100#14 ∧ encode .nop = 0x0000#14 ∧
    ∀ k : Byte,
      encode (.movlw k) &&& 0x0300#14 = 0#14 ∧ encode (.retlw k) &&& 0x0300#14 = 0#14 ∧
        encode (.addlw k) &&& 0x0100#14 = 0#14 ∧ encode (.sublw k) &&& 0x0100#14 = 0#14

/-- R89 and the decoding table of 95_test_vectors.md section 2.11: words written out by the spec. -/
def Obligations.WordsOfTheSpecDecodeAsItSays : Prop :=
  decode 0x3E15#14 = .ok (.addlw 0x15#8) ∧ decode 0x0704#14 = .ok (.addwf 0x04#7 .w) ∧
    decode 0x13A0#14 = .ok (.bcf 0x20#7 7#3) ∧ decode 0x2123#14 = .ok (.call 0x123#11) ∧
    decode 0x0066#14 = .ok (.tris 6#3) ∧ decode 0x1FFF#14 = .ok (.btfss 0x7F#7 7#3)

/-! ### Reset, fetch, step, invariant -/

/-- 10_state.md R43, 70_reset_and_hazards.md R201, R202: the values the spec gives for power-on, for every choice of
the parameters; they are the family's, which D10 adopts: PRESUMED (log 6). In a register map other than P16, R43 and
R201 leave OPTION and the TRIS registers to the profile, and that its bank bits are 0 is the model's choice (log 34).
The other registers for which the spec gives no value are not named here. -/
def Obligations.LaunchLeavesTheResetValuesOfTheSpec : Prop :=
  ∀ (cfg : Config) (prog : List (Nat × InstrWord)),
    (State.launch cfg prog).pc = cfg.resetVector ∧ (State.launch cfg prog).timeOut = true ∧
      (State.launch cfg prog).powerDown = true ∧ (State.launch cfg prog).gie = false ∧
      (State.launch cfg prog).pclath = 0#5 ∧ (State.launch cfg prog).stack = [] ∧
      (State.launch cfg prog).asleep = false ∧ (State.launch cfg prog).wdt = 0 ∧
      (State.launch cfg prog).prescaler = 0 ∧
      (∀ a, Memory.read (State.launch cfg prog).data a = none) ∧
      ProfileRegistersReset (State.launch cfg prog)

/-- 70_reset_and_hazards.md R219: an awake core with no event at the boundary runs the instruction its word decodes to,
on the state the environment's input has arrived in. The last clause, that with an empty input list only the
environment's own fields change, is the model's choice (logs 19, 32). -/
def Obligations.StepRunsTheDecodedInstruction : Prop :=
  ∀ (s : State) (a : Nat) (iw : InstrWord) (i : Instr),
    s.asleep = false → NoResetDue s → (s.gie = false ∨ s.arrive.intRequest = false) → s.fetchAddress = .ok a →
      Memory.read s.prog a = some iw → decode iw = .ok i →
      step s = exec i s.arrive ∧ (s.inputs = [] → s.arrive = { s with env := {}, tick := s.tick + 1 })

/-- 20_memory.md R46: the word at `pc` below `PROG_WORDS`, `FetchOutOfRange` beyond it, or the implemented words
repeated where that alternative is chosen. The last clause is the model's own choice (log 8), and so is the repetition
where `PROG_WORDS` is no power of two (log 9). -/
def Obligations.FetchSelectsTheProgramWord : Prop :=
  ∀ s : State,
    (∀ iw, s.pc.toNat < s.cfg.progWords → Memory.read s.prog s.pc.toNat = some iw → s.fetch = .ok iw) ∧
      (s.cfg.progWords ≤ s.pc.toNat → s.cfg.fetchPolicy = .fault → s.fetch = .error (.fetchOutOfRange s.pc)) ∧
      (∀ iw, 1 ≤ s.cfg.progWords → s.cfg.fetchPolicy = .wrap →
        Memory.read s.prog (s.pc.toNat % s.cfg.progWords) = some iw → s.fetch = .ok iw) ∧
      (s.pc.toNat < s.cfg.progWords → Memory.read s.prog s.pc.toNat = none →
        s.fetch = .error (.unloadedWord s.pc))

/-- 30_encoding.md R82: a word of the unassigned ranges that is to be executed stops the machine, and the fault
records the word and its address. The fault is the decision D6 (log 25). -/
def Obligations.ExecutedUnassignedWordFaults : Prop :=
  ∀ (s : State) (iw : InstrWord),
    s.asleep = false → NoResetDue s → (s.gie = false ∨ s.arrive.intRequest = false) → s.fetch = .ok iw →
      Unassigned iw → step s = .fault (.unassignedOpcode s.pc iw)

/-- Every step keeps the invariant: parameters within bounds (`PROG_WORDS` by R4; `STACK_DEPTH` at least 1 is the
model's own bound, log 10), both memories canonical, data memory within plain storage, the stack within its depth,
stale slots (log 10) counted. -/
def Obligations.StepKeepsTheInvariant : Prop :=
  ∀ s t : State, s.inv = true → step s = .next t → t.inv = true

/-- The invariant holds after reset, and after every launch with parameters within their bounds and a canonical
program. R4 bounds `PROG_WORDS` only; that `STACK_DEPTH` is at least 1 is the model's own bound (log 10). -/
def Obligations.LaunchHasTheInvariant : Prop :=
  State.reset.inv = true ∧
    ∀ (cfg : Config) (prog : List (Nat × InstrWord)),
      cfg.wf = true → Memory.wf prog = true → (State.launch cfg prog).inv = true

/-- 20_memory.md R62: program memory is constant during a run; so are the parameters. -/
def Obligations.StepKeepsProgramAndParameters : Prop :=
  ∀ s t : State, step s = .next t → t.prog = s.prog ∧ t.cfg = s.cfg

/-! ### Results and frames of the byte-oriented instructions (40_byte_oriented.md)

`s.ea f = .ok l` says that the file operand designates the location `l`. -/

/-- R100, R103. C of a sum and DC are PRESUMED (log 15); with STATUS as the destination, so are the flags from the sum
and TO and PD kept (R42, the note: log 13), and with PCL the upper bits of the target (log 14). -/
def Obligations.AddwfAddsWAndTheFile : Prop :=
  ∀ (s : State) (f : FileField) (d : Dest) (l : FileLoc), s.ea f = .ok l →
    ∃ (t : State) (r : Byte), exec (.addwf f d) s = .next t ∧
      r.toNat = ((s.readLoc l).toNat + s.w.toNat) % 256 ∧
      SumFlags t ((s.readLoc l).toNat + s.w.toNat) ((s.readLoc l).toNat % 16 + s.w.toNat % 16) ∧
      Delivered s t l d r ∧ DeliveredPc s t l d r

/-- R100, R118: the file minus W, in that order. DC is PRESUMED (log 15); with STATUS as the destination, so are the
flags from the difference and TO and PD kept (R42, the note: log 13), and with PCL the upper bits of the target (log
14). -/
def Obligations.SubwfSubtractsWFromTheFile : Prop :=
  ∀ (s : State) (f : FileField) (d : Dest) (l : FileLoc), s.ea f = .ok l →
    ∃ (t : State) (r : Byte), exec (.subwf f d) s = .next t ∧
      r.toNat = ((s.readLoc l).toNat + 256 - s.w.toNat) % 256 ∧ DifferenceFlags t (s.readLoc l) s.w ∧
      Delivered s t l d r ∧ DeliveredPc s t l d r

/-- R100, R104, R112, R120: bit by bit, with Z. With STATUS as the destination, that C and DC are kept and Z is the
result's, and that TO and PD are kept, is PRESUMED (R42, the note: log 13), as are with PCL the upper bits of the
target (log 14). -/
def Obligations.LogicOfWAndTheFile : Prop :=
  ∀ (s : State) (f : FileField) (d : Dest) (l : FileLoc), s.ea f = .ok l →
    (∃ (t : State) (r : Byte), exec (.andwf f d) s = .next t ∧
      (∀ n, r.getLsbD n = (s.w.getLsbD n && (s.readLoc l).getLsbD n)) ∧ ZeroOnly s t r ∧
      Delivered s t l d r ∧ DeliveredPc s t l d r) ∧
    (∃ (t : State) (r : Byte), exec (.iorwf f d) s = .next t ∧
      (∀ n, r.getLsbD n = (s.w.getLsbD n || (s.readLoc l).getLsbD n)) ∧ ZeroOnly s t r ∧
      Delivered s t l d r ∧ DeliveredPc s t l d r) ∧
    (∃ (t : State) (r : Byte), exec (.xorwf f d) s = .next t ∧
      (∀ n, r.getLsbD n = Bool.xor (s.w.getLsbD n) ((s.readLoc l).getLsbD n)) ∧ ZeroOnly s t r ∧
      Delivered s t l d r ∧ DeliveredPc s t l d r)

/-- R100, R107, R113. With STATUS as the destination, that C and DC are kept and Z is the result's, and that TO and PD
are kept, is PRESUMED (R42, the note: log 13), as are with PCL the upper bits of the target (log 14). -/
def Obligations.ComfComplementsAndMovfMoves : Prop :=
  ∀ (s : State) (f : FileField) (d : Dest) (l : FileLoc), s.ea f = .ok l →
    (∃ (t : State) (r : Byte), exec (.comf f d) s = .next t ∧ r.toNat = 255 - (s.readLoc l).toNat ∧
      ZeroOnly s t r ∧ Delivered s t l d r ∧ DeliveredPc s t l d r) ∧
    (∃ t : State, exec (.movf f d) s = .next t ∧ ZeroOnly s t (s.readLoc l) ∧
      Delivered s t l d (s.readLoc l) ∧ DeliveredPc s t l d (s.readLoc l))

/-- R100, R108, R110: modulo 256, Z and no other flag. With STATUS as the destination, that C and DC are kept and Z is
the result's, and that TO and PD are kept, is PRESUMED (R42, the note: log 13), as are with PCL the upper bits of the
target (log 14). -/
def Obligations.DecfAndIncfCountModulo256 : Prop :=
  ∀ (s : State) (f : FileField) (d : Dest) (l : FileLoc), s.ea f = .ok l →
    (∃ (t : State) (r : Byte), exec (.decf f d) s = .next t ∧ r.toNat = ((s.readLoc l).toNat + 255) % 256 ∧
      ZeroOnly s t r ∧ Delivered s t l d r ∧ DeliveredPc s t l d r) ∧
    (∃ (t : State) (r : Byte), exec (.incf f d) s = .next t ∧ r.toNat = ((s.readLoc l).toNat + 1) % 256 ∧
      ZeroOnly s t r ∧ Delivered s t l d r ∧ DeliveredPc s t l d r)

/-- R100, R102, R116, R117: through the carry, which alone of the flags is written. With STATUS as the destination,
that DC and Z are kept and C is the rotation's, and that TO and PD are kept, is PRESUMED (R42, the note: log 13), as are
with PCL the upper bits of the target (log 14). -/
def Obligations.RlfAndRrfRotateThroughCarry : Prop :=
  ∀ (s : State) (f : FileField) (d : Dest) (l : FileLoc), s.ea f = .ok l →
    (∃ (t : State) (r : Byte), exec (.rlf f d) s = .next t ∧
      r.toNat = (2 * (s.readLoc l).toNat + s.c.toNat) % 256 ∧ (t.c = true ↔ 128 ≤ (s.readLoc l).toNat) ∧
      t.dc = s.dc ∧ t.z = s.z ∧ Delivered s t l d r ∧ DeliveredPc s t l d r) ∧
    (∃ (t : State) (r : Byte), exec (.rrf f d) s = .next t ∧
      r.toNat = (s.readLoc l).toNat / 2 + 128 * s.c.toNat ∧ (t.c = true ↔ (s.readLoc l).toNat % 2 = 1) ∧
      t.dc = s.dc ∧ t.z = s.z ∧ Delivered s t l d r ∧ DeliveredPc s t l d r)

/-- R119: no flag, unless the byte goes to STATUS as data (10_state.md R42, the note). The note is PRESUMED (log 13),
and so are with PCL as the destination the upper bits of the target (log 14). -/
def Obligations.SwapfExchangesTheNibbles : Prop :=
  ∀ (s : State) (f : FileField) (d : Dest) (l : FileLoc), s.ea f = .ok l →
    ∃ (t : State) (r : Byte), exec (.swapf f d) s = .next t ∧
      r.toNat = (s.readLoc l).toNat % 16 * 16 + (s.readLoc l).toNat / 16 ∧ FlagsAsData s t l d r ∧
      Delivered s t l d r ∧ DeliveredPc s t l d r

/-- R109, R111: the skip, but for the destination that `SkipOntoTheProgramCounterFaults` covers. With STATUS as the
destination, the flags from the data and TO and PD kept are PRESUMED (R42, the note: log 13). -/
def Obligations.DecfszAndIncfszSkipOnZero : Prop :=
  ∀ (s : State) (f : FileField) (d : Dest) (l : FileLoc), s.ea f = .ok l → ¬(d = .f ∧ l = .pcl) →
    (∃ (t : State) (r : Byte), exec (.decfsz f d) s = .next t ∧ r.toNat = ((s.readLoc l).toNat + 255) % 256 ∧
      FlagsAsData s t l d r ∧ Delivered s t l d r ∧ Skips s t (r = 0#8)) ∧
    (∃ (t : State) (r : Byte), exec (.incfsz f d) s = .next t ∧ r.toNat = ((s.readLoc l).toNat + 1) % 256 ∧
      FlagsAsData s t l d r ∧ Delivered s t l d r ∧ Skips s t (r = 0#8))

/-- R105, R114. With STATUS as the destination, which flags CLRF and MOVWF leave and that TO and PD are kept is PRESUMED
(R42, the note: log 13), as are with PCL the upper bits of the target (log 14). -/
def Obligations.ClrfAndMovwfWriteTheFile : Prop :=
  ∀ (s : State) (f : FileField) (l : FileLoc), s.ea f = .ok l →
    (∃ t : State, exec (.clrf f) s = .next t ∧ t.c = s.c ∧ t.dc = s.dc ∧ t.z = true ∧
      Delivered s t l .f 0x00#8 ∧ DeliveredPc s t l .f 0x00#8) ∧
    (∃ t : State, exec (.movwf f) s = .next t ∧ FlagsAsData s t l .f s.w ∧ Delivered s t l .f s.w ∧
      DeliveredPc s t l .f s.w)

/-- R106, R115: CLRW writes W and Z, NOP nothing. -/
def Obligations.ClrwClearsWAndNopDoesNothing : Prop :=
  ∀ s : State,
    (∃ t : State, exec .clrw s = .next t ∧ t.w = 0x00#8 ∧ t.c = s.c ∧ t.dc = s.dc ∧ t.z = true ∧
      SameAround s t ∧ Falls s t) ∧
    (∃ t : State, exec .nop s = .next t ∧ t.w = s.w ∧ SameFlags s t ∧ SameAround s t ∧ Falls s t)

/-! ### Results and frames of the bit-oriented instructions (41_bit_oriented.md) -/

/-- R130, R131, R132: one bit changes, all eight are written. With STATUS as the destination, the flags from the data
and TO and PD kept are PRESUMED (R42, the note: log 13), as are with PCL the upper bits of the target (log 14). -/
def Obligations.BcfAndBsfChangeOneBit : Prop :=
  ∀ (s : State) (f : FileField) (b : BitVec 3) (l : FileLoc), s.ea f = .ok l →
    (∃ (t : State) (r : Byte), exec (.bcf f b) s = .next t ∧
      (∀ n, n < 8 → r.getLsbD n = if n = b.toNat then false else (s.readLoc l).getLsbD n) ∧
      FlagsAsData s t l .f r ∧ Delivered s t l .f r ∧ DeliveredPc s t l .f r) ∧
    (∃ (t : State) (r : Byte), exec (.bsf f b) s = .next t ∧
      (∀ n, n < 8 → r.getLsbD n = if n = b.toNat then true else (s.readLoc l).getLsbD n) ∧
      FlagsAsData s t l .f r ∧ Delivered s t l .f r ∧ DeliveredPc s t l .f r)

/-- R133, R134: nothing is written. -/
def Obligations.BtfscAndBtfssSkipOnTheBit : Prop :=
  ∀ (s : State) (f : FileField) (b : BitVec 3) (l : FileLoc), s.ea f = .ok l →
    (∃ t : State, exec (.btfsc f b) s = .next t ∧ t.w = s.w ∧ SameFlags s t ∧ SameAround s t ∧
      Skips s t ((s.readLoc l).getLsbD b.toNat = false)) ∧
    (∃ t : State, exec (.btfss f b) s = .next t ∧ t.w = s.w ∧ SameFlags s t ∧ SameAround s t ∧
      Skips s t ((s.readLoc l).getLsbD b.toNat = true))

/-! ### Results and frames of the literal and control instructions (42_literal_control.md) -/

/-- R141, R153: literal plus W, literal minus W. C of a sum and DC are PRESUMED (log 15). -/
def Obligations.AddlwAndSublwComputeIntoW : Prop :=
  ∀ (s : State) (k : Byte),
    (∃ t : State, exec (.addlw k) s = .next t ∧ t.w.toNat = (s.w.toNat + k.toNat) % 256 ∧
      SumFlags t (s.w.toNat + k.toNat) (s.w.toNat % 16 + k.toNat % 16) ∧ SameAround s t ∧ Falls s t) ∧
    (∃ t : State, exec (.sublw k) s = .next t ∧ t.w.toNat = (k.toNat + 256 - s.w.toNat) % 256 ∧
      DifferenceFlags t k s.w ∧ SameAround s t ∧ Falls s t)

/-- R142, R147, R154, R148. -/
def Obligations.LogicLiteralsAndMovlwWriteW : Prop :=
  ∀ (s : State) (k : Byte),
    (∃ t : State, exec (.andlw k) s = .next t ∧ (∀ n, t.w.getLsbD n = (s.w.getLsbD n && k.getLsbD n)) ∧
      ZeroOnly s t t.w ∧ SameAround s t ∧ Falls s t) ∧
    (∃ t : State, exec (.iorlw k) s = .next t ∧ (∀ n, t.w.getLsbD n = (s.w.getLsbD n || k.getLsbD n)) ∧
      ZeroOnly s t t.w ∧ SameAround s t ∧ Falls s t) ∧
    (∃ t : State, exec (.xorlw k) s = .next t ∧ (∀ n, t.w.getLsbD n = Bool.xor (s.w.getLsbD n) (k.getLsbD n)) ∧
      ZeroOnly s t t.w ∧ SameAround s t ∧ Falls s t) ∧
    (∃ t : State, exec (.movlw k) s = .next t ∧ t.w = k ∧ SameFlags s t ∧ SameAround s t ∧ Falls s t)

/-- R143, R144 and 10_state.md R23: with a free slot. The stale slot it uses up is the model's (log 10), the wrap of
`pc + 1` the decision D2 (log 30). -/
def Obligations.CallPushesTheNextAddressAndJumps : Prop :=
  ∀ (s : State) (k : BitVec 11), s.stack.length < s.cfg.stackDepth →
    ∃ (t : State) (back : ProgAddr), exec (.call k) s = .next t ∧ back.toNat = (s.pc.toNat + 1) % 8192 ∧
      t.stack = back :: s.stack ∧ t.stale = s.stale.dropLast ∧ PageJump s t k ∧ t.w = s.w ∧ SameFlags s t ∧
      SameControl s t ∧ SameFiles s t

/-- R146, R144. -/
def Obligations.GotoJumpsWithinThePageOfPclath : Prop :=
  ∀ (s : State) (k : BitVec 11),
    ∃ t : State, exec (.goto k) s = .next t ∧ PageJump s t k ∧ t.w = s.w ∧ SameFlags s t ∧ SameAround s t

/-- R149, R150, R151 and 10_state.md R24, R25: all thirteen bits from the top entry; RETLW writes W, RETFIE sets GIE;
nothing else is restored. What the freed slot keeps is the model's (log 10). -/
def Obligations.ReturnsPopTheProgramCounter : Prop :=
  ∀ (s : State) (k : Byte) (back : ProgAddr) (rest : List ProgAddr), s.stack = back :: rest →
    (∃ t : State, exec .ret s = .next t ∧ ReturnedTo s t back rest (s.freedSlot back) ∧ t.w = s.w ∧
      SameFiles s t) ∧
    (∃ t : State, exec (.retlw k) s = .next t ∧ ReturnedTo s t back rest (s.freedSlot back) ∧ t.w = k ∧
      SameFiles s t) ∧
    (∃ t : State, exec .retfie s = .next t ∧ ReturnedTo s t back rest (s.freedSlot back) ∧ t.w = s.w ∧
      SameFiles { s with gie := true } t)

/-- R145, R152: the watchdog cleared, the prescaler cleared unless it is assigned to Timer0 (C13), TO and PD
written; SLEEP puts the core to sleep. The choice of C13 is log 31, what assigns the prescaler log
17. -/
def Obligations.ClrwdtAndSleepClearTheWatchdog : Prop :=
  ∀ s : State,
    (∃ t : State, exec .clrwdt s = .next t ∧ t.w = s.w ∧ SameFlags s t ∧ SameStack s t ∧
      SameControl { s with wdt := 0, timeOut := true, powerDown := true } t ∧
      SameFiles { s with prescaler := if s.prescalerToTimer0 then s.prescaler else 0 } t ∧ Falls s t) ∧
    (∃ t : State, exec .sleep s = .next t ∧ t.w = s.w ∧ SameFlags s t ∧ SameStack s t ∧
      SameControl { s with wdt := 0, timeOut := true, powerDown := false, asleep := true } t ∧
      SameFiles { s with prescaler := if s.prescalerToTimer0 then s.prescaler else 0 } t ∧ Falls s t)

/-- 43_option_tris.md R160, R161: W to the register the opcode names, as one device write. The event log is the
model's (log 26). -/
def Obligations.OptionAndTrisLoadTheirRegisters : Prop :=
  ∀ s : State,
    (∃ t : State, exec .option s = .next t ∧ t.w = s.w ∧ SameFlags s t ∧ SameControl s t ∧ SameStack s t ∧
      SameFiles { s with optionReg := s.w, events := .option s.w :: s.events } t ∧ Falls s t) ∧
    (∀ (f : BitVec 3) (p : Port), f.toNat = p.number →
      ∃ t : State, exec (.tris f) s = .next t ∧ t.w = s.w ∧ SameFlags s t ∧ SameControl s t ∧ SameStack s t ∧
        t.trisRegs.get p = s.w ∧ (∀ q, q ≠ p → t.trisRegs.get q = s.trisRegs.get q) ∧
        SameFiles { s with trisRegs := t.trisRegs, events := .tris p s.w :: s.events } t ∧ Falls s t)

/-! ### Where instructions stop (60_exceptions.md R171) -/

/-- F3: exactly the instructions with a file operand, exactly where the profile maps no location. -/
def Obligations.UnmappedFileOperandFaults : Prop :=
  (∀ (i : Instr) (s : State) (f : FileField) (r : Fault), fileOperand i = some f → s.ea f = .error r →
    exec i s = .fault r ∧ ∃ a, r = .unmappedFile a) ∧
  (∀ (i : Instr) (s : State) (a : Nat), exec i s = .fault (.unmappedFile a) →
    ∃ f, fileOperand i = some f ∧ s.ea f = .error (.unmappedFile a))

/-- F6, D13: the fault records the address and the very word that decoded. The fault is the decision D13 (log 25). -/
def Obligations.SkipOntoTheProgramCounterFaults : Prop :=
  ∀ (s : State) (f : FileField) (iw : InstrWord), s.ea f = .ok .pcl →
    (decode iw = .ok (.decfsz f .f) → exec (.decfsz f .f) s = .fault (.unspecifiedCombination s.pc iw)) ∧
      (decode iw = .ok (.incfsz f .f) → exec (.incfsz f .f) s = .fault (.unspecifiedCombination s.pc iw))

/-- F4, F5 under `STACK_POLICY = fault` (10_state.md R23, R24, D4), for CALL, interrupt entry and the three returns.
The faults are the decision D4 (logs 10, 25); that interrupt entry pushes is D8, PRESUMED (log 20). -/
def Obligations.StackFaultsUnderTheFaultPolicy : Prop :=
  ∀ (s : State) (k : BitVec 11) (v : Byte), s.cfg.stackPolicy = .fault →
    (s.cfg.stackDepth ≤ s.stack.length →
      exec (.call k) s = .fault (.stackOverflow s.pc) ∧ s.takeInterrupt = .error (.stackOverflow s.pc)) ∧
    (s.stack = [] →
      exec .ret s = .fault (.stackUnderflow s.pc) ∧ exec (.retlw v) s = .fault (.stackUnderflow s.pc) ∧
        exec .retfie s = .fault (.stackUnderflow s.pc))

/-- 10_state.md R23, R24 under `STACK_POLICY = circular`: a push on a full stack, by CALL or by interrupt entry, drops
the oldest entry; a pop of an empty one answers, with the address a slot last received, whatever that is for a slot
never written. The order of the slots is the model's (log 10), the wrap of `pc + 1` the decision D2 (log 30). What
interrupt entry does besides (60_exceptions.md R178: GIE cleared, the vector, nothing else saved) is the decision D8,
PRESUMED (log 20), and that it takes no cycles the model's choice (logs 20, 27). -/
def Obligations.CircularStackNeverFaults : Prop :=
  ∀ (s : State) (k : BitVec 11) (v : Byte), s.cfg.stackPolicy = .circular →
    (s.cfg.stackDepth ≤ s.stack.length →
      (∃ t : State, exec (.call k) s = .next t ∧ t.stack = ((s.pc + 1#13) :: s.stack).take s.cfg.stackDepth ∧
        t.stale = s.stale ∧ PageJump s t k ∧ t.w = s.w ∧ SameFlags s t ∧ SameControl s t ∧ SameFiles s t) ∧
      (∃ t : State, s.takeInterrupt = .ok t ∧ t.stack = (s.pc :: s.stack).take s.cfg.stackDepth ∧
        t.stale = s.stale ∧ t.pc = s.cfg.intVector ∧ t.cycles = s.cycles ∧ t.w = s.w ∧ SameFlags s t ∧
        SameControl s t ∧ SameFiles { s with gie := false } t)) ∧
    (s.stack = [] →
      ∃ (p : ProgAddr) (stale : List ProgAddr),
        (s.stale.length < s.cfg.stackDepth → stale = s.stale ++ [p]) ∧
        (∀ u rest, s.cfg.stackDepth ≤ s.stale.length → s.stale = u :: rest → p = u ∧ stale = rest ++ [u]) ∧
        (∃ t : State, exec .ret s = .next t ∧ ReturnedTo s t p [] stale ∧ t.w = s.w ∧ SameFiles s t) ∧
        (∃ t : State, exec (.retlw v) s = .next t ∧ ReturnedTo s t p [] stale ∧ t.w = v ∧ SameFiles s t) ∧
        (∃ t : State, exec .retfie s = .next t ∧ ReturnedTo s t p [] stale ∧ t.w = s.w ∧
          SameFiles { s with gie := true } t))

/-- 93_implementation_defined.md U13: a term of TRIS outside its operand range, which no word decodes to, is
refused. The refusal is the model's choice (log 28). -/
def Obligations.TrisOutsideItsRangeIsRefused : Prop :=
  ∀ (s : State) (f : BitVec 3), f.toNat < 5 →
    exec (.tris f) s = .refused (.trisOperand f) ∧ ∀ iw, decode iw ≠ .ok (.tris f)

/-! ### Interrupts, resets, watchdog, sleep (60_exceptions.md, 70_reset_and_hazards.md) -/

/-- 60_exceptions.md R177, R178: the whole of interrupt entry, and nothing else saved or changed. The entry is the
decision D8, PRESUMED (log 20); what requests is log 21. The stale slot it uses up is the model's (log 10), and so is
that it takes no cycles (logs 20, 27). -/
def Obligations.InterruptEntryPushesPcAndClearsGie : Prop :=
  ∀ s : State, s.asleep = false → NoResetDue s → s.gie = true → s.arrive.intRequest = true →
    s.stack.length < s.cfg.stackDepth →
    ∃ t : State, step s = .next t ∧ t.stack = s.pc :: s.stack ∧ t.stale = s.stale.dropLast ∧
      t.pc = s.cfg.intVector ∧ t.w = s.w ∧ SameFlags s t ∧ t.cycles = s.cycles ∧ SameControl s.arrive t ∧
      SameFiles { s.arrive with gie := false } t

/-- 60_exceptions.md R175: with GIE clear no interrupt is taken, whatever is requested. -/
def Obligations.NoInterruptWithGieClear : Prop :=
  ∀ s : State, s.asleep = false → NoResetDue s → s.gie = false → s.boundary = .execute s.arrive

/-- 60_exceptions.md R181, D8: RETFIE inverts interrupt entry, but for the time it takes and the slot it frees. The
entry is the decision D8, PRESUMED (log 20), and that it takes no cycles the model's choice (log 27); the slot is log
10. -/
def Obligations.RetfieInvertsInterruptEntry : Prop :=
  ∀ s : State, s.gie = true → s.stack.length < s.cfg.stackDepth →
    ∃ t u : State, s.takeInterrupt = .ok t ∧ exec .retfie t = .next u ∧
      { u with stale := s.stale } = { s with cycles := s.cycles + 2 }

/-- 10_state.md R25: a return comes back to the instruction after the CALL, in whatever page, and leaves PCLATH. The
stale slots are the model's (log 10), the wrap of `pc + 1` the decision D2 (log 30). -/
def Obligations.ReturnComesBackAfterTheCall : Prop :=
  ∀ (s : State) (k : BitVec 11), s.stack.length < s.cfg.stackDepth →
    ∃ t u : State, exec (.call k) s = .next t ∧ exec .ret t = .next u ∧
      { u with stale := s.stale } = { s with pc := s.pc + 1#13, cycles := s.cycles + 4 }

/-- 60_exceptions.md R186, 70_reset_and_hazards.md R219: a watchdog time-out resets an awake core with TO 0 and PD 1,
and lets a sleeping one execute with TO 0; it comes before any interrupt. The event is the decision D11 (log 22); what
a reset leaves is PRESUMED and DEDUCED (logs 6, 24), in a map other than P16 the model's choice too (log 34). -/
def Obligations.WatchdogTimeoutResetsOrWakes : Prop :=
  ∀ s : State, (s.inputs.headD {}).externalReset = false → s.cfg.wdtEnabled = true →
    (s.inputs.headD {}).wdtTimeout = true →
    (s.asleep = false →
      ∃ t : State, step s = .next t ∧ ResetLeft s.arrive t ∧ t.timeOut = false ∧ t.powerDown = true) ∧
    (s.asleep = true → s.boundary = .execute { s.arrive with timeOut := false, asleep := false })

/-- 70_reset_and_hazards.md R201, R219: an external reset replaces any step; TO and PD tell whether the core slept.
What a reset leaves is PRESUMED and DEDUCED (logs 6, 24), in a map other than P16 the model's choice too (log 34). -/
def Obligations.ExternalResetReplacesAnyStep : Prop :=
  ∀ s : State, (s.inputs.headD {}).externalReset = true →
    ∃ t : State, step s = .next t ∧ ResetLeft s.arrive t ∧
      (s.asleep = true → t.timeOut = true ∧ t.powerDown = false) ∧
      (s.asleep = false → t.timeOut = s.timeOut ∧ t.powerDown = s.powerDown)

/-- 60_exceptions.md R189: a sleeping core makes no step of its own until `Wake`; then the instruction at `pc`
executes with no interrupt test before it. The form of a step asleep, that an empty input list brings no `Wake`, and
which requests wake the core are the model's choices (logs 19, 23, 35). -/
def Obligations.SleepingCoreWaitsForWake : Prop :=
  ∀ s : State, s.asleep = true → NoResetDue s →
    (s.arrive.wakes = false → step s = .next s.arrive) ∧
      (s.arrive.wakes = true → s.boundary = .execute { s.arrive with asleep := false })

/-- 70_reset_and_hazards.md R221 (b): asleep with no event to come that wakes the core, nothing of the machine changes
any more but what the environment itself counts and the flag bits it sets in INTCON (20_memory.md R65; which these are,
log 21); with no input left, not even that. That a step asleep answers a next state, that the environment is quiet past
the end of its list, and which requests wake the core are the model's choices (logs 19, 23, 32, 35). -/
def Obligations.QuiescentSleepNeverEnds : Prop :=
  ∀ s : State, Quiescent s →
    ∃ t : State, step s = .next t ∧ Quiescent t ∧ OnlyEnvironment s t ∧
      (s.inputs = [] → t = { s with env := {}, tick := s.tick + 1 })

/-- 70_reset_and_hazards.md R221 (a): a self-loop stays one and only time passes, but for the environment's counts and
the flag bits it sets in INTCON (log 21), unless a reset or a watchdog time-out comes. With no input left none can come,
which is the model's choice (logs 19, 32). -/
def Obligations.SelfLoopNeverEnds : Prop :=
  ∀ s : State, SelfLoop s →
    (NoResetDue s →
      ∃ t : State, step s = .next t ∧ SelfLoop t ∧ t.cycles = s.cycles + 2 ∧
        OnlyEnvironment { s with cycles := t.cycles } t) ∧
    (s.inputs = [] → step s = .next { s with cycles := s.cycles + 2, env := {}, tick := s.tick + 1 })

/-! ### Rules of the whole machine -/

/-- 10_state.md R20. The wrap at 8192 is the decision D2 (log 30). -/
def Obligations.InstructionFallsThroughUnlessItSetsPc : Prop :=
  ∀ (i : Instr) (s t : State), exec i s = .next t → isJump i = false → isSkip i = false → ¬WritesLoc i s .pcl →
    t.pc.toNat = (s.pc.toNat + 1) % 8192

/-- 70_reset_and_hazards.md R214: the two-cycle rule. -/
def Obligations.CyclesFollowTheTwoCycleRule : Prop :=
  ∀ (i : Instr) (s t : State), exec i s = .next t →
    ((isJump i = true ∨ (isSkip i = true ∧ t.pc = s.pc + 2#13) ∨ (isSkip i = false ∧ WritesLoc i s .pcl)) →
      t.cycles = s.cycles + 2) ∧
    (¬(isJump i = true ∨ (isSkip i = true ∧ t.pc = s.pc + 2#13) ∨ (isSkip i = false ∧ WritesLoc i s .pcl)) →
      t.cycles = s.cycles + 1)

/-- 00_scope.md R5: a flag that is not listed is not changed, STATUS as a destination apart
(`StatusAsDestinationKeepsTimeOutAndPowerDown` covers that). R5 is the spec's own inference. -/
def Obligations.UnlistedFlagsAreKept : Prop :=
  ∀ (i : Instr) (s t : State) (flag : Flag), exec i s = .next t → ¬WritesLoc i s .status →
    flag ∉ statusAffected i → t.flag flag = s.flag flag

/-- 10_state.md R30, R31: CLRWDT and SLEEP alone write TO and PD; none clears TO, SLEEP alone clears PD. That a data
write to STATUS keeps them is PRESUMED (log 13). -/
def Obligations.OnlyClrwdtAndSleepWriteTimeOutAndPowerDown : Prop :=
  ∀ (i : Instr) (s t : State), exec i s = .next t →
    (i = .clrwdt → t.timeOut = true ∧ t.powerDown = true) ∧ (i = .sleep → t.timeOut = true ∧ t.powerDown = false) ∧
      (i ≠ .clrwdt → i ≠ .sleep → t.timeOut = s.timeOut ∧ t.powerDown = s.powerDown)

/-- 10_state.md R23, R26: no instruction but CALL and the returns touches the return stack. -/
def Obligations.OnlyCallAndReturnsTouchTheStack : Prop :=
  ∀ (i : Instr) (s t : State), exec i s = .next t → (isJump i = false ∨ ∃ k, i = .goto k) → SameStack s t

/-- 10_state.md R34: PCLATH changes only as a file register that is written. -/
def Obligations.PclathChangesOnlyAsAFileRegister : Prop :=
  ∀ (i : Instr) (s t : State), exec i s = .next t → ¬WritesLoc i s .pclath → t.pclath = s.pclath

/-- 20_memory.md R45, R21 of 10_state.md, R218 of 70_reset_and_hazards.md: what an instruction does depends neither on the
words of program memory (a skipped word among them) nor on the time. -/
def Obligations.ExecReadsNeitherProgramNorTime : Prop :=
  ∀ (i : Instr) (s : State) (prog : List (Nat × InstrWord)) (n : Nat),
    (∀ t, exec i s = .next t →
      exec i { s with prog := prog, cycles := s.cycles + n } = .next { t with prog := prog, cycles := t.cycles + n }) ∧
    (∀ r, exec i s = .fault r → exec i { s with prog := prog, cycles := s.cycles + n } = .fault r)

/-- 20_memory.md R53: every instruction that writes TMR0 clears the prescaler if it is assigned to Timer0; with `d = 0`,
nothing is written and it is not cleared. That every writing instruction clears it is the spec's own resolution C15
(DEDUCED, log 31); what assigns the prescaler is log 17. -/
def Obligations.WritingTmr0ClearsThePrescaler : Prop :=
  ∀ (i : Instr) (s : State) (f : FileField), fileOperand i = some f → s.ea f = .ok .tmr0 →
    ∃ t : State, exec i s = .next t ∧
      (fileDest i = some f → t.prescaler = if s.prescalerToTimer0 then 0 else s.prescaler) ∧
      (fileDest i = none → t.tmr0 = s.tmr0 ∧ t.prescaler = s.prescaler ∧ t.events = s.events)

/-! ### The file register map, and what follows from it (10_state.md R22, R42; 20_memory.md R47, R52) -/

/-- 20_memory.md R47, 10_state.md R42: the identity without a profile; in P16 the whole map, at `RP1 : RP0 : f` for a
direct access (RP1 ignored on a part with two banks) and at `IRP : FSR` for an indirect one; in another map (log 34)
its rows, where without bank bits and INDF the address is `f` itself. Profile P16 is PRESUMED (log 2); what banks 2 and
3 hold at 0x01 and 0x05 to 0x07, the data addresses above 0xFF of a part with two banks, and INDF reached through FSR in
every bank are the model's choices (logs 11, 12). -/
def Obligations.FileAddressesDesignateTheirLocations : Prop :=
  ∀ (s : State) (f : FileField),
    (s.cfg.profile = .none → s.ea f = .ok (.plain f.toNat)) ∧
    (s.cfg.profile = .p16 → s.cfg.fourBanks = true → f ≠ 0x00#7 →
      P16Map s.cfg (s.rp1.toNat * 256 + s.rp0.toNat * 128 + f.toNat) (s.ea f)) ∧
    (s.cfg.profile = .p16 → s.cfg.fourBanks = false → f ≠ 0x00#7 →
      P16Map s.cfg (s.rp0.toNat * 128 + f.toNat) (s.ea f)) ∧
    (s.cfg.profile = .p16 → s.cfg.fourBanks = true ∨ s.irp = false →
      P16Map s.cfg (s.irp.toNat * 256 + s.fsr.toNat) (s.ea 0x00#7)) ∧
    (s.cfg.profile = .p16 → s.cfg.fourBanks = false → s.irp = true →
      s.ea 0x00#7 = .error (.unmappedFile (256 + s.fsr.toNat))) ∧
    (∀ map, s.cfg.profile = .table map →
      (map.indf ≠ some f → TableMap map (s.bankNumber map.direct * 128 + f.toNat) (s.ea f)) ∧
        (map.indf = some f → TableMap map (s.bankNumber map.indirect * 256 + s.fsr.toNat) (s.ea f)) ∧
        (map.direct = [] → map.indf = none → TableMap map f.toNat (s.ea f)))

/-- 20_memory.md R48, R49: what MOVWF stores in a plain location, MOVF reads back, and no other location changes; and
what MOVF reads at every other location, by 10_state.md R22, R33, R34, R42 and 20_memory.md R52: the bits each register
holds. Profile P16, the places of the bits of STATUS with it, is PRESUMED (logs 2, 12, 14); a value the environment gives
no input for is free (log 16); that PCLATH has five bits in other maps too is the model's choice (log 34). -/
def Obligations.MovfReadsBackWhatMovwfStored : Prop :=
  ∀ (s : State) (f : FileField),
    (∀ a, s.ea f = .ok (.plain a) →
      ∃ t u : State, exec (.movwf f) s = .next t ∧ exec (.movf f .w) t = .next u ∧ u.w = s.w ∧
        (u.z = true ↔ s.w = 0#8) ∧ ∀ b, b ≠ a → u.plainByte b = s.plainByte b) ∧
    (∀ l, s.ea f = .ok l →
      ∃ u : State, exec (.movf f .w) s = .next u ∧ (u.z = true ↔ u.w = 0#8) ∧
        (∀ a v, l = .plain a → Memory.read s.data a = some v → u.w = v) ∧
        (l = .null → u.w = 0x00#8) ∧ (l = .fsr → u.w = s.fsr) ∧ (l = .pclath → u.w.toNat = s.pclath.toNat) ∧
        (l = .pcl → u.w.toNat = (s.pc.toNat + 1) % 256) ∧ (l = .option → u.w = s.optionReg) ∧
        (∀ p, l = .tris p → u.w = s.trisRegs.get p) ∧ (∀ v, l = .tmr0 → s.env.timer0 = some v → u.w = v) ∧
        (∀ p v, l = .port p → s.env.pins p = some v → u.w = v) ∧
        (l = .intcon → u.w.getLsbD 7 = s.gie ∧ ∀ n, n < 7 → u.w.getLsbD n = s.intcon.getLsbD n) ∧
        (l = .status → s.cfg.profile = .p16 →
          u.w.getLsbD 0 = s.c ∧ u.w.getLsbD 1 = s.dc ∧ u.w.getLsbD 2 = s.z ∧ u.w.getLsbD 3 = s.powerDown ∧
            u.w.getLsbD 4 = s.timeOut ∧ u.w.getLsbD 5 = s.rp0 ∧ u.w.getLsbD 6 = s.rp1 ∧ u.w.getLsbD 7 = s.irp) ∧
        (∀ map n, l = .status → s.cfg.profile = .table map →
          (u.w.getLsbD n.toNat = true ↔
            (map.status.c = some n ∧ s.c = true) ∨ (map.status.dc = some n ∧ s.dc = true) ∨
              (map.status.z = some n ∧ s.z = true) ∨ (map.status.powerDown = some n ∧ s.powerDown = true) ∨
              (map.status.timeOut = some n ∧ s.timeOut = true) ∨ (map.status.rp0 = some n ∧ s.rp0 = true) ∨
              (map.status.rp1 = some n ∧ s.rp1 = true) ∨ (map.status.irp = some n ∧ s.irp = true))))

/-- 20_memory.md R52, 70_reset_and_hazards.md R205: a read-modify-write of a port works on the pins, and puts all eight of
them into the latch but for the bit it names. -/
def Obligations.PortReadModifyWriteUsesThePins : Prop :=
  ∀ (s : State) (f : FileField) (b : BitVec 3) (p : Port) (pins : Byte), s.ea f = .ok (.port p) →
    s.env.pins p = some pins →
    (∃ t : State, exec (.bsf f b) s = .next t ∧
      ∀ n, n < 8 → (t.latches.get p).getLsbD n = if n = b.toNat then true else pins.getLsbD n) ∧
    (∃ t : State, exec (.movf f .f) s = .next t ∧ t.latches.get p = pins ∧ t.events = .port p pins :: s.events)

/-- 10_state.md R22, 40_byte_oriented.md R103, 70_reset_and_hazards.md R211: the computed jump adds W to the low byte
of `pc + 1` modulo 256; the carry goes to C and not into the upper bits, which come from PCLATH. The upper bits are
PRESUMED (log 14), and so is C of a sum (log 15). -/
def Obligations.AddwfToPclIsTheComputedJump : Prop :=
  ∀ (s : State) (f : FileField), s.ea f = .ok .pcl →
    ∃ t : State, exec (.addwf f .f) s = .next t ∧
      t.pc.toNat = s.pclath.toNat * 256 + ((s.pc.toNat + 1) % 256 + s.w.toNat) % 256 ∧
      (t.c = true ↔ 256 ≤ (s.pc.toNat + 1) % 256 + s.w.toNat) ∧ t.cycles = s.cycles + 2

/-- 10_state.md R42, the note: no data write changes TO or PD; CLRF sets Z and leaves C and DC; MOVWF and BSF write C, DC
and Z as data. The note is PRESUMED (log 13). -/
def Obligations.StatusAsDestinationKeepsTimeOutAndPowerDown : Prop :=
  ∀ (s : State) (f : FileField) (b : BitVec 3), s.cfg.profile = .p16 → s.ea f = .ok .status →
    (∃ t : State, exec (.clrf f) s = .next t ∧
      (∀ n, n < 8 → t.statusByte.getLsbD n =
        if n = 2 then true else if 5 ≤ n then false else s.statusByte.getLsbD n)) ∧
    (∃ t : State, exec (.movwf f) s = .next t ∧
      (∀ n, n < 8 → t.statusByte.getLsbD n =
        if n = 3 ∨ n = 4 then s.statusByte.getLsbD n else s.w.getLsbD n)) ∧
    (∃ t : State, exec (.bsf f b) s = .next t ∧
      (∀ n, n < 8 → t.statusByte.getLsbD n =
        if n = 3 ∨ n = 4 then s.statusByte.getLsbD n
        else if n = b.toNat then true else s.statusByte.getLsbD n))

/-- 40_byte_oriented.md R101: the sum modulo 256 and its carries; for a subtraction they mean no borrow. C of a sum
and DC are PRESUMED (log 15). -/
def Obligations.AdderCarriesMeanNoBorrowInSubtraction : Prop :=
  ∀ x w : Byte,
    (∃ r c dc z, addition x w = (r, .cdcz c dc z) ∧ r.toNat = (x.toNat + w.toNat) % 256 ∧
      (c = true ↔ 255 < x.toNat + w.toNat) ∧ (dc = true ↔ 15 < x.toNat % 16 + w.toNat % 16) ∧ (z = true ↔ r = 0#8)) ∧
    (∃ r c dc z, subtraction x w = (r, .cdcz c dc z) ∧ r = x - w ∧ (c = true ↔ w.toNat ≤ x.toNat) ∧
      (dc = true ↔ w.toNat % 16 ≤ x.toNat % 16) ∧ (z = true ↔ x = w))

/-- 40_byte_oriented.md R116: nine RLF with `d = 1` on one register restore the register and the carry. -/
def Obligations.NineRotationsRestoreRegisterAndCarry : Prop :=
  ∀ (s : State) (f : FileField) (a : Nat), s.ea f = .ok (.plain a) →
    ∃ t : State, execTimes 9 (.rlf f .f) s = .next t ∧ t.plainByte a = s.plainByte a ∧ t.c = s.c ∧
      ∀ b, b ≠ a → t.plainByte b = s.plainByte b
end

