-- ==== Sys2Proof/Laws/Memory.lean ====
section
/-! SUPPORT. The laws of sparse memory: read after write, and the canonical form, which every write keeps. -/

namespace Sys2Proof.Machine

variable {α : Type}

/-- A read after a write to the same address gives the value written. -/
@[simp] theorem Memory.read_write_same (m : List (Nat × α)) (a : Nat) (v : α) :
    Memory.read (Memory.write m a v) a = some v := by
  induction m with
  | nil => simp [Memory.write, Memory.read]
  | cons cell rest ih =>
    obtain ⟨b, u⟩ := cell
    unfold Memory.write
    split
    · simp [Memory.read]
    · split
      · simp [Memory.read]
      · rename_i h
        simp [Memory.read, Ne.symm h, ih]

/-- A write leaves every other address alone. -/
theorem Memory.read_write_of_ne (m : List (Nat × α)) (a b : Nat) (v : α) (h : b ≠ a) :
    Memory.read (Memory.write m a v) b = Memory.read m b := by
  induction m with
  | nil => simp [Memory.write, Memory.read, h.symm]
  | cons cell rest ih =>
    obtain ⟨k, u⟩ := cell
    unfold Memory.write
    split
    · simp [Memory.read, h.symm]
    · split
      · rename_i hk
        subst hk
        simp [Memory.read, h.symm]
      · simp [Memory.read, ih]

/-- Both laws at once: what any address reads as after a write. -/
theorem Memory.read_write (m : List (Nat × α)) (a b : Nat) (v : α) :
    Memory.read (Memory.write m a v) b = if b = a then some v else Memory.read m b := by
  split
  · rename_i h
    subst h
    exact Memory.read_write_same m b v
  · rename_i h
    exact Memory.read_write_of_ne m a b v h

/-- The head of a canonical memory lies below all that follows, and the rest is canonical. -/
theorem Memory.wf_cons_iff (a : Nat) (v : α) (m : List (Nat × α)) :
    Memory.wf ((a, v) :: m) = true ↔ (∀ cell ∈ m, a < cell.1) ∧ Memory.wf m = true := by
  induction m generalizing a v with
  | nil => simp [Memory.wf]
  | cons cell rest ih =>
    obtain ⟨b, u⟩ := cell
    have hb := ih b u
    simp only [Memory.wf, Bool.and_eq_true, decide_eq_true_eq, List.mem_cons, forall_eq_or_imp]
    constructor
    · rintro ⟨hab, hrest⟩
      exact ⟨⟨hab, fun cell hc => Nat.lt_trans hab ((hb.mp hrest).1 cell hc)⟩, hrest⟩
    · rintro ⟨⟨hab, -⟩, hrest⟩
      exact ⟨hab, hrest⟩

/-- Every entry after a write is the one written or was there before. -/
theorem Memory.mem_write (m : List (Nat × α)) (a : Nat) (v : α) (cell : Nat × α)
    (h : cell ∈ Memory.write m a v) : cell = (a, v) ∨ cell ∈ m := by
  induction m with
  | nil => simpa [Memory.write] using h
  | cons head rest ih =>
    obtain ⟨b, u⟩ := head
    unfold Memory.write at h
    split at h
    · simpa using h
    · split at h
      · rcases List.mem_cons.mp h with rfl | hr
        · exact .inl rfl
        · exact .inr (List.mem_cons_of_mem _ hr)
      · rcases List.mem_cons.mp h with rfl | hr
        · exact .inr List.mem_cons_self
        · exact (ih hr).imp id (List.mem_cons_of_mem _)

/-- A write keeps the canonical form. -/
theorem Memory.write_wf (m : List (Nat × α)) (a : Nat) (v : α) (h : Memory.wf m = true) :
    Memory.wf (Memory.write m a v) = true := by
  induction m with
  | nil => rfl
  | cons cell rest ih =>
    obtain ⟨b, u⟩ := cell
    have hb := (Memory.wf_cons_iff b u rest).mp h
    unfold Memory.write
    split
    · rename_i hab
      refine (Memory.wf_cons_iff a v _).mpr ⟨?_, h⟩
      rintro cell hc
      rcases List.mem_cons.mp hc with rfl | hr
      · exact hab
      · exact Nat.lt_trans hab (hb.1 cell hr)
    · rename_i hle
      split
      · rename_i hab
        subst hab
        exact (Memory.wf_cons_iff a v rest).mpr hb
      · rename_i hne
        refine (Memory.wf_cons_iff b u _).mpr ⟨?_, ih hb.2⟩
        rintro cell hc
        rcases Memory.mem_write rest a v cell hc with rfl | hr
        · exact Nat.lt_of_le_of_ne (Nat.le_of_not_lt hle) (Ne.symm hne)
        · exact hb.1 cell hr

/-- Writing the same address twice leaves the second value. -/
theorem Memory.write_write_same (m : List (Nat × α)) (a : Nat) (u v : α) :
    Memory.write (Memory.write m a u) a v = Memory.write m a v := by
  induction m with
  | nil => simp [Memory.write]
  | cons cell rest ih =>
    obtain ⟨b, x⟩ := cell
    rcases Nat.lt_trichotomy a b with h | h | h
    · simp [Memory.write, h]
    · subst h
      simp [Memory.write]
    · simp [Memory.write, Nat.lt_asymm h, Nat.ne_of_gt h, ih]

end Sys2Proof.Machine
end

