-- ==== Sys2Proof/Laws/Stack.lean ====
section
/-! SUPPORT. What the stack operations, interrupt entry and the return from it can do, said once. -/

namespace Sys2Proof.Machine

/-- A push with a free slot. -/
theorem State.push_of_room (s : State) (v : ProgAddr) (h : s.stack.length < s.cfg.stackDepth) :
    s.push v = .ok { s with stack := v :: s.stack, stale := s.stale.dropLast } := by
  simp [State.push, h]

/-- A push on a full stack under `fault`. -/
theorem State.push_of_full_fault (s : State) (v : ProgAddr) (h : s.cfg.stackDepth ≤ s.stack.length)
    (hp : s.cfg.stackPolicy = .fault) : s.push v = .error (.stackOverflow s.pc) := by
  simp [State.push, Nat.not_lt.mpr h, hp]

/-- A push on a full stack under `circular`. -/
theorem State.push_of_full_circular (s : State) (v : ProgAddr) (h : s.cfg.stackDepth ≤ s.stack.length)
    (hp : s.cfg.stackPolicy = .circular) :
    s.push v = .ok { s with stack := (v :: s.stack).take s.cfg.stackDepth } := by
  simp [State.push, Nat.not_lt.mpr h, hp]

/-- Everything a push can do, if it answers a state. -/
theorem State.push_cases {s t : State} {v : ProgAddr} (h : s.push v = .ok t) :
    (s.stack.length < s.cfg.stackDepth ∧ t = { s with stack := v :: s.stack, stale := s.stale.dropLast }) ∨
      (s.cfg.stackDepth ≤ s.stack.length ∧ s.cfg.stackPolicy = .circular ∧
        t = { s with stack := (v :: s.stack).take s.cfg.stackDepth }) := by
  unfold State.push at h
  split at h
  · rename_i hroom
    exact .inl ⟨hroom, (Except.ok.inj h).symm⟩
  · rename_i hfull
    split at h
    · cases h
    · rename_i hp
      exact .inr ⟨Nat.le_of_not_lt hfull, hp, (Except.ok.inj h).symm⟩

/-- A pop of a live entry. -/
theorem State.pop_of_live (s : State) (t : ProgAddr) (rest : List ProgAddr) (h : s.stack = t :: rest) :
    s.pop = .ok (t, { s with stack := rest, stale := s.freedSlot t }) := by
  simp [State.pop, h]

/-- A pop of an empty stack under `fault`. -/
theorem State.pop_of_empty_fault (s : State) (h : s.stack = []) (hp : s.cfg.stackPolicy = .fault) :
    s.pop = .error (.stackUnderflow s.pc) := by
  simp [State.pop, h, hp]

/-- A pop of an empty stack under `circular`. -/
theorem State.pop_of_empty_circular (s : State) (h : s.stack = []) (hp : s.cfg.stackPolicy = .circular) :
    s.pop = .ok s.popStale := by
  simp [State.pop, h, hp]

/-- Everything a pop of stale slots can do: it changes the stale slots only. -/
theorem State.popStale_cases (s : State) :
    (s.stale.length < s.cfg.stackDepth ∧
        s.popStale = (Config.emptySlot s.tick, { s with stale := s.stale ++ [Config.emptySlot s.tick] })) ∨
      (s.cfg.stackDepth ≤ s.stale.length ∧ s.stale = [] ∧ s.popStale = (Config.emptySlot s.tick, s)) ∨
      ∃ v rest, s.cfg.stackDepth ≤ s.stale.length ∧ s.stale = v :: rest ∧
        s.popStale = (v, { s with stale := rest ++ [v] }) := by
  unfold State.popStale
  split
  · rename_i h
    exact .inl ⟨h, rfl⟩
  · rename_i h
    have hle := Nat.le_of_not_lt h
    split
    · rename_i he
      exact .inr (.inl ⟨hle, he, rfl⟩)
    · rename_i v rest he
      exact .inr (.inr ⟨v, rest, hle, he, rfl⟩)

/-- Everything a pop can do, if it answers. -/
theorem State.pop_cases {s u : State} {t : ProgAddr} (h : s.pop = .ok (t, u)) :
    (∃ rest, s.stack = t :: rest ∧ u = { s with stack := rest, stale := s.freedSlot t }) ∨
      (s.stack = [] ∧ s.cfg.stackPolicy = .circular ∧ s.popStale = (t, u)) := by
  unfold State.pop at h
  split at h
  · rename_i v rest hs
    obtain ⟨rfl, rfl⟩ := Prod.mk.inj (Except.ok.inj h)
    exact .inl ⟨rest, hs, rfl⟩
  · rename_i hs
    split at h
    · cases h
    · rename_i hp
      exact .inr ⟨hs, hp, Except.ok.inj h⟩

/-- Everything interrupt entry can do, if it answers a state. -/
theorem State.takeInterrupt_cases {s t : State} (h : s.takeInterrupt = .ok t) :
    ∃ u, s.push s.pc = .ok u ∧ t = { u with gie := false, pc := s.cfg.intVector } := by
  unfold State.takeInterrupt at h
  split at h
  · cases h
  · rename_i u hu
    exact ⟨u, hu, (Except.ok.inj h).symm⟩

/-- Everything the return from an interrupt can do, if it answers a state. -/
theorem State.returnFromInterrupt_cases {s v : State} (h : s.returnFromInterrupt = .ok v) :
    ∃ t u, s.pop = .ok (t, u) ∧ v = { u with gie := true }.jump t := by
  unfold State.returnFromInterrupt at h
  split at h
  · cases h
  · rename_i t u hu
    exact ⟨t, u, hu, (Except.ok.inj h).symm⟩

end Sys2Proof.Machine
end

