-- ==== Sys2Proof/Laws/State.lean ====
section
/-! SUPPORT. One lemma per field per update of State, so that no proof unfolds a record update. -/

namespace Sys2Proof.Machine

variable (s : State)

/-! ### `State.advance` -/

@[simp] theorem State.advance_cfg : s.advance.cfg = s.cfg := rfl
@[simp] theorem State.advance_w : s.advance.w = s.w := rfl
@[simp] theorem State.advance_pc : s.advance.pc = s.pc + 1#13 := rfl
@[simp] theorem State.advance_c : s.advance.c = s.c := rfl
@[simp] theorem State.advance_dc : s.advance.dc = s.dc := rfl
@[simp] theorem State.advance_z : s.advance.z = s.z := rfl
@[simp] theorem State.advance_timeOut : s.advance.timeOut = s.timeOut := rfl
@[simp] theorem State.advance_powerDown : s.advance.powerDown = s.powerDown := rfl
@[simp] theorem State.advance_rp0 : s.advance.rp0 = s.rp0 := rfl
@[simp] theorem State.advance_rp1 : s.advance.rp1 = s.rp1 := rfl
@[simp] theorem State.advance_irp : s.advance.irp = s.irp := rfl
@[simp] theorem State.advance_fsr : s.advance.fsr = s.fsr := rfl
@[simp] theorem State.advance_pclath : s.advance.pclath = s.pclath := rfl
@[simp] theorem State.advance_gie : s.advance.gie = s.gie := rfl
@[simp] theorem State.advance_intcon : s.advance.intcon = s.intcon := rfl
@[simp] theorem State.advance_optionReg : s.advance.optionReg = s.optionReg := rfl
@[simp] theorem State.advance_trisRegs : s.advance.trisRegs = s.trisRegs := rfl
@[simp] theorem State.advance_latches : s.advance.latches = s.latches := rfl
@[simp] theorem State.advance_tmr0 : s.advance.tmr0 = s.tmr0 := rfl
@[simp] theorem State.advance_wdt : s.advance.wdt = s.wdt := rfl
@[simp] theorem State.advance_prescaler : s.advance.prescaler = s.prescaler := rfl
@[simp] theorem State.advance_asleep : s.advance.asleep = s.asleep := rfl
@[simp] theorem State.advance_stack : s.advance.stack = s.stack := rfl
@[simp] theorem State.advance_stale : s.advance.stale = s.stale := rfl
@[simp] theorem State.advance_data : s.advance.data = s.data := rfl
@[simp] theorem State.advance_prog : s.advance.prog = s.prog := rfl
@[simp] theorem State.advance_cycles : s.advance.cycles = s.cycles + 1 := rfl
@[simp] theorem State.advance_events : s.advance.events = s.events := rfl
@[simp] theorem State.advance_env : s.advance.env = s.env := rfl
@[simp] theorem State.advance_inputs : s.advance.inputs = s.inputs := rfl
@[simp] theorem State.advance_tick : s.advance.tick = s.tick := rfl

/-! ### `State.skipIf` -/

@[simp] theorem State.skipIf_cfg (test : Bool) : (s.skipIf test).cfg = s.cfg := rfl
@[simp] theorem State.skipIf_w (test : Bool) : (s.skipIf test).w = s.w := rfl
@[simp] theorem State.skipIf_pc (test : Bool) : (s.skipIf test).pc = (if test then s.pc + 2#13 else s.pc + 1#13) := rfl
@[simp] theorem State.skipIf_c (test : Bool) : (s.skipIf test).c = s.c := rfl
@[simp] theorem State.skipIf_dc (test : Bool) : (s.skipIf test).dc = s.dc := rfl
@[simp] theorem State.skipIf_z (test : Bool) : (s.skipIf test).z = s.z := rfl
@[simp] theorem State.skipIf_timeOut (test : Bool) : (s.skipIf test).timeOut = s.timeOut := rfl
@[simp] theorem State.skipIf_powerDown (test : Bool) : (s.skipIf test).powerDown = s.powerDown := rfl
@[simp] theorem State.skipIf_rp0 (test : Bool) : (s.skipIf test).rp0 = s.rp0 := rfl
@[simp] theorem State.skipIf_rp1 (test : Bool) : (s.skipIf test).rp1 = s.rp1 := rfl
@[simp] theorem State.skipIf_irp (test : Bool) : (s.skipIf test).irp = s.irp := rfl
@[simp] theorem State.skipIf_fsr (test : Bool) : (s.skipIf test).fsr = s.fsr := rfl
@[simp] theorem State.skipIf_pclath (test : Bool) : (s.skipIf test).pclath = s.pclath := rfl
@[simp] theorem State.skipIf_gie (test : Bool) : (s.skipIf test).gie = s.gie := rfl
@[simp] theorem State.skipIf_intcon (test : Bool) : (s.skipIf test).intcon = s.intcon := rfl
@[simp] theorem State.skipIf_optionReg (test : Bool) : (s.skipIf test).optionReg = s.optionReg := rfl
@[simp] theorem State.skipIf_trisRegs (test : Bool) : (s.skipIf test).trisRegs = s.trisRegs := rfl
@[simp] theorem State.skipIf_latches (test : Bool) : (s.skipIf test).latches = s.latches := rfl
@[simp] theorem State.skipIf_tmr0 (test : Bool) : (s.skipIf test).tmr0 = s.tmr0 := rfl
@[simp] theorem State.skipIf_wdt (test : Bool) : (s.skipIf test).wdt = s.wdt := rfl
@[simp] theorem State.skipIf_prescaler (test : Bool) : (s.skipIf test).prescaler = s.prescaler := rfl
@[simp] theorem State.skipIf_asleep (test : Bool) : (s.skipIf test).asleep = s.asleep := rfl
@[simp] theorem State.skipIf_stack (test : Bool) : (s.skipIf test).stack = s.stack := rfl
@[simp] theorem State.skipIf_stale (test : Bool) : (s.skipIf test).stale = s.stale := rfl
@[simp] theorem State.skipIf_data (test : Bool) : (s.skipIf test).data = s.data := rfl
@[simp] theorem State.skipIf_prog (test : Bool) : (s.skipIf test).prog = s.prog := rfl
@[simp] theorem State.skipIf_cycles (test : Bool) : (s.skipIf test).cycles = (if test then s.cycles + 2 else s.cycles + 1) := rfl
@[simp] theorem State.skipIf_events (test : Bool) : (s.skipIf test).events = s.events := rfl
@[simp] theorem State.skipIf_env (test : Bool) : (s.skipIf test).env = s.env := rfl
@[simp] theorem State.skipIf_inputs (test : Bool) : (s.skipIf test).inputs = s.inputs := rfl
@[simp] theorem State.skipIf_tick (test : Bool) : (s.skipIf test).tick = s.tick := rfl

/-! ### `State.jump` -/

@[simp] theorem State.jump_cfg (t : ProgAddr) : (s.jump t).cfg = s.cfg := rfl
@[simp] theorem State.jump_w (t : ProgAddr) : (s.jump t).w = s.w := rfl
@[simp] theorem State.jump_pc (t : ProgAddr) : (s.jump t).pc = t := rfl
@[simp] theorem State.jump_c (t : ProgAddr) : (s.jump t).c = s.c := rfl
@[simp] theorem State.jump_dc (t : ProgAddr) : (s.jump t).dc = s.dc := rfl
@[simp] theorem State.jump_z (t : ProgAddr) : (s.jump t).z = s.z := rfl
@[simp] theorem State.jump_timeOut (t : ProgAddr) : (s.jump t).timeOut = s.timeOut := rfl
@[simp] theorem State.jump_powerDown (t : ProgAddr) : (s.jump t).powerDown = s.powerDown := rfl
@[simp] theorem State.jump_rp0 (t : ProgAddr) : (s.jump t).rp0 = s.rp0 := rfl
@[simp] theorem State.jump_rp1 (t : ProgAddr) : (s.jump t).rp1 = s.rp1 := rfl
@[simp] theorem State.jump_irp (t : ProgAddr) : (s.jump t).irp = s.irp := rfl
@[simp] theorem State.jump_fsr (t : ProgAddr) : (s.jump t).fsr = s.fsr := rfl
@[simp] theorem State.jump_pclath (t : ProgAddr) : (s.jump t).pclath = s.pclath := rfl
@[simp] theorem State.jump_gie (t : ProgAddr) : (s.jump t).gie = s.gie := rfl
@[simp] theorem State.jump_intcon (t : ProgAddr) : (s.jump t).intcon = s.intcon := rfl
@[simp] theorem State.jump_optionReg (t : ProgAddr) : (s.jump t).optionReg = s.optionReg := rfl
@[simp] theorem State.jump_trisRegs (t : ProgAddr) : (s.jump t).trisRegs = s.trisRegs := rfl
@[simp] theorem State.jump_latches (t : ProgAddr) : (s.jump t).latches = s.latches := rfl
@[simp] theorem State.jump_tmr0 (t : ProgAddr) : (s.jump t).tmr0 = s.tmr0 := rfl
@[simp] theorem State.jump_wdt (t : ProgAddr) : (s.jump t).wdt = s.wdt := rfl
@[simp] theorem State.jump_prescaler (t : ProgAddr) : (s.jump t).prescaler = s.prescaler := rfl
@[simp] theorem State.jump_asleep (t : ProgAddr) : (s.jump t).asleep = s.asleep := rfl
@[simp] theorem State.jump_stack (t : ProgAddr) : (s.jump t).stack = s.stack := rfl
@[simp] theorem State.jump_stale (t : ProgAddr) : (s.jump t).stale = s.stale := rfl
@[simp] theorem State.jump_data (t : ProgAddr) : (s.jump t).data = s.data := rfl
@[simp] theorem State.jump_prog (t : ProgAddr) : (s.jump t).prog = s.prog := rfl
@[simp] theorem State.jump_cycles (t : ProgAddr) : (s.jump t).cycles = s.cycles + 2 := rfl
@[simp] theorem State.jump_events (t : ProgAddr) : (s.jump t).events = s.events := rfl
@[simp] theorem State.jump_env (t : ProgAddr) : (s.jump t).env = s.env := rfl
@[simp] theorem State.jump_inputs (t : ProgAddr) : (s.jump t).inputs = s.inputs := rfl
@[simp] theorem State.jump_tick (t : ProgAddr) : (s.jump t).tick = s.tick := rfl

/-! ### `State.setW` -/

@[simp] theorem State.setW_cfg (v : Byte) : (s.setW v).cfg = s.cfg := rfl
@[simp] theorem State.setW_w (v : Byte) : (s.setW v).w = v := rfl
@[simp] theorem State.setW_pc (v : Byte) : (s.setW v).pc = s.pc := rfl
@[simp] theorem State.setW_c (v : Byte) : (s.setW v).c = s.c := rfl
@[simp] theorem State.setW_dc (v : Byte) : (s.setW v).dc = s.dc := rfl
@[simp] theorem State.setW_z (v : Byte) : (s.setW v).z = s.z := rfl
@[simp] theorem State.setW_timeOut (v : Byte) : (s.setW v).timeOut = s.timeOut := rfl
@[simp] theorem State.setW_powerDown (v : Byte) : (s.setW v).powerDown = s.powerDown := rfl
@[simp] theorem State.setW_rp0 (v : Byte) : (s.setW v).rp0 = s.rp0 := rfl
@[simp] theorem State.setW_rp1 (v : Byte) : (s.setW v).rp1 = s.rp1 := rfl
@[simp] theorem State.setW_irp (v : Byte) : (s.setW v).irp = s.irp := rfl
@[simp] theorem State.setW_fsr (v : Byte) : (s.setW v).fsr = s.fsr := rfl
@[simp] theorem State.setW_pclath (v : Byte) : (s.setW v).pclath = s.pclath := rfl
@[simp] theorem State.setW_gie (v : Byte) : (s.setW v).gie = s.gie := rfl
@[simp] theorem State.setW_intcon (v : Byte) : (s.setW v).intcon = s.intcon := rfl
@[simp] theorem State.setW_optionReg (v : Byte) : (s.setW v).optionReg = s.optionReg := rfl
@[simp] theorem State.setW_trisRegs (v : Byte) : (s.setW v).trisRegs = s.trisRegs := rfl
@[simp] theorem State.setW_latches (v : Byte) : (s.setW v).latches = s.latches := rfl
@[simp] theorem State.setW_tmr0 (v : Byte) : (s.setW v).tmr0 = s.tmr0 := rfl
@[simp] theorem State.setW_wdt (v : Byte) : (s.setW v).wdt = s.wdt := rfl
@[simp] theorem State.setW_prescaler (v : Byte) : (s.setW v).prescaler = s.prescaler := rfl
@[simp] theorem State.setW_asleep (v : Byte) : (s.setW v).asleep = s.asleep := rfl
@[simp] theorem State.setW_stack (v : Byte) : (s.setW v).stack = s.stack := rfl
@[simp] theorem State.setW_stale (v : Byte) : (s.setW v).stale = s.stale := rfl
@[simp] theorem State.setW_data (v : Byte) : (s.setW v).data = s.data := rfl
@[simp] theorem State.setW_prog (v : Byte) : (s.setW v).prog = s.prog := rfl
@[simp] theorem State.setW_cycles (v : Byte) : (s.setW v).cycles = s.cycles := rfl
@[simp] theorem State.setW_events (v : Byte) : (s.setW v).events = s.events := rfl
@[simp] theorem State.setW_env (v : Byte) : (s.setW v).env = s.env := rfl
@[simp] theorem State.setW_inputs (v : Byte) : (s.setW v).inputs = s.inputs := rfl
@[simp] theorem State.setW_tick (v : Byte) : (s.setW v).tick = s.tick := rfl

/-! ### `State.setTimePower` -/

@[simp] theorem State.setTimePower_cfg (a b : Bool) : (s.setTimePower a b).cfg = s.cfg := rfl
@[simp] theorem State.setTimePower_w (a b : Bool) : (s.setTimePower a b).w = s.w := rfl
@[simp] theorem State.setTimePower_pc (a b : Bool) : (s.setTimePower a b).pc = s.pc := rfl
@[simp] theorem State.setTimePower_c (a b : Bool) : (s.setTimePower a b).c = s.c := rfl
@[simp] theorem State.setTimePower_dc (a b : Bool) : (s.setTimePower a b).dc = s.dc := rfl
@[simp] theorem State.setTimePower_z (a b : Bool) : (s.setTimePower a b).z = s.z := rfl
@[simp] theorem State.setTimePower_timeOut (a b : Bool) : (s.setTimePower a b).timeOut = a := rfl
@[simp] theorem State.setTimePower_powerDown (a b : Bool) : (s.setTimePower a b).powerDown = b := rfl
@[simp] theorem State.setTimePower_rp0 (a b : Bool) : (s.setTimePower a b).rp0 = s.rp0 := rfl
@[simp] theorem State.setTimePower_rp1 (a b : Bool) : (s.setTimePower a b).rp1 = s.rp1 := rfl
@[simp] theorem State.setTimePower_irp (a b : Bool) : (s.setTimePower a b).irp = s.irp := rfl
@[simp] theorem State.setTimePower_fsr (a b : Bool) : (s.setTimePower a b).fsr = s.fsr := rfl
@[simp] theorem State.setTimePower_pclath (a b : Bool) : (s.setTimePower a b).pclath = s.pclath := rfl
@[simp] theorem State.setTimePower_gie (a b : Bool) : (s.setTimePower a b).gie = s.gie := rfl
@[simp] theorem State.setTimePower_intcon (a b : Bool) : (s.setTimePower a b).intcon = s.intcon := rfl
@[simp] theorem State.setTimePower_optionReg (a b : Bool) : (s.setTimePower a b).optionReg = s.optionReg := rfl
@[simp] theorem State.setTimePower_trisRegs (a b : Bool) : (s.setTimePower a b).trisRegs = s.trisRegs := rfl
@[simp] theorem State.setTimePower_latches (a b : Bool) : (s.setTimePower a b).latches = s.latches := rfl
@[simp] theorem State.setTimePower_tmr0 (a b : Bool) : (s.setTimePower a b).tmr0 = s.tmr0 := rfl
@[simp] theorem State.setTimePower_wdt (a b : Bool) : (s.setTimePower a b).wdt = s.wdt := rfl
@[simp] theorem State.setTimePower_prescaler (a b : Bool) : (s.setTimePower a b).prescaler = s.prescaler := rfl
@[simp] theorem State.setTimePower_asleep (a b : Bool) : (s.setTimePower a b).asleep = s.asleep := rfl
@[simp] theorem State.setTimePower_stack (a b : Bool) : (s.setTimePower a b).stack = s.stack := rfl
@[simp] theorem State.setTimePower_stale (a b : Bool) : (s.setTimePower a b).stale = s.stale := rfl
@[simp] theorem State.setTimePower_data (a b : Bool) : (s.setTimePower a b).data = s.data := rfl
@[simp] theorem State.setTimePower_prog (a b : Bool) : (s.setTimePower a b).prog = s.prog := rfl
@[simp] theorem State.setTimePower_cycles (a b : Bool) : (s.setTimePower a b).cycles = s.cycles := rfl
@[simp] theorem State.setTimePower_events (a b : Bool) : (s.setTimePower a b).events = s.events := rfl
@[simp] theorem State.setTimePower_env (a b : Bool) : (s.setTimePower a b).env = s.env := rfl
@[simp] theorem State.setTimePower_inputs (a b : Bool) : (s.setTimePower a b).inputs = s.inputs := rfl
@[simp] theorem State.setTimePower_tick (a b : Bool) : (s.setTimePower a b).tick = s.tick := rfl

/-! ### `State.clearWatchdog` -/

@[simp] theorem State.clearWatchdog_cfg : s.clearWatchdog.cfg = s.cfg := rfl
@[simp] theorem State.clearWatchdog_w : s.clearWatchdog.w = s.w := rfl
@[simp] theorem State.clearWatchdog_pc : s.clearWatchdog.pc = s.pc := rfl
@[simp] theorem State.clearWatchdog_c : s.clearWatchdog.c = s.c := rfl
@[simp] theorem State.clearWatchdog_dc : s.clearWatchdog.dc = s.dc := rfl
@[simp] theorem State.clearWatchdog_z : s.clearWatchdog.z = s.z := rfl
@[simp] theorem State.clearWatchdog_timeOut : s.clearWatchdog.timeOut = s.timeOut := rfl
@[simp] theorem State.clearWatchdog_powerDown : s.clearWatchdog.powerDown = s.powerDown := rfl
@[simp] theorem State.clearWatchdog_rp0 : s.clearWatchdog.rp0 = s.rp0 := rfl
@[simp] theorem State.clearWatchdog_rp1 : s.clearWatchdog.rp1 = s.rp1 := rfl
@[simp] theorem State.clearWatchdog_irp : s.clearWatchdog.irp = s.irp := rfl
@[simp] theorem State.clearWatchdog_fsr : s.clearWatchdog.fsr = s.fsr := rfl
@[simp] theorem State.clearWatchdog_pclath : s.clearWatchdog.pclath = s.pclath := rfl
@[simp] theorem State.clearWatchdog_gie : s.clearWatchdog.gie = s.gie := rfl
@[simp] theorem State.clearWatchdog_intcon : s.clearWatchdog.intcon = s.intcon := rfl
@[simp] theorem State.clearWatchdog_optionReg : s.clearWatchdog.optionReg = s.optionReg := rfl
@[simp] theorem State.clearWatchdog_trisRegs : s.clearWatchdog.trisRegs = s.trisRegs := rfl
@[simp] theorem State.clearWatchdog_latches : s.clearWatchdog.latches = s.latches := rfl
@[simp] theorem State.clearWatchdog_tmr0 : s.clearWatchdog.tmr0 = s.tmr0 := rfl
@[simp] theorem State.clearWatchdog_wdt : s.clearWatchdog.wdt = 0 := rfl
@[simp] theorem State.clearWatchdog_prescaler : s.clearWatchdog.prescaler = (if s.prescalerToTimer0 then s.prescaler else 0) := rfl
@[simp] theorem State.clearWatchdog_asleep : s.clearWatchdog.asleep = s.asleep := rfl
@[simp] theorem State.clearWatchdog_stack : s.clearWatchdog.stack = s.stack := rfl
@[simp] theorem State.clearWatchdog_stale : s.clearWatchdog.stale = s.stale := rfl
@[simp] theorem State.clearWatchdog_data : s.clearWatchdog.data = s.data := rfl
@[simp] theorem State.clearWatchdog_prog : s.clearWatchdog.prog = s.prog := rfl
@[simp] theorem State.clearWatchdog_cycles : s.clearWatchdog.cycles = s.cycles := rfl
@[simp] theorem State.clearWatchdog_events : s.clearWatchdog.events = s.events := rfl
@[simp] theorem State.clearWatchdog_env : s.clearWatchdog.env = s.env := rfl
@[simp] theorem State.clearWatchdog_inputs : s.clearWatchdog.inputs = s.inputs := rfl
@[simp] theorem State.clearWatchdog_tick : s.clearWatchdog.tick = s.tick := rfl

/-! ### `State.writeOption` -/

@[simp] theorem State.writeOption_cfg (v : Byte) : (s.writeOption v).cfg = s.cfg := rfl
@[simp] theorem State.writeOption_w (v : Byte) : (s.writeOption v).w = s.w := rfl
@[simp] theorem State.writeOption_pc (v : Byte) : (s.writeOption v).pc = s.pc := rfl
@[simp] theorem State.writeOption_c (v : Byte) : (s.writeOption v).c = s.c := rfl
@[simp] theorem State.writeOption_dc (v : Byte) : (s.writeOption v).dc = s.dc := rfl
@[simp] theorem State.writeOption_z (v : Byte) : (s.writeOption v).z = s.z := rfl
@[simp] theorem State.writeOption_timeOut (v : Byte) : (s.writeOption v).timeOut = s.timeOut := rfl
@[simp] theorem State.writeOption_powerDown (v : Byte) : (s.writeOption v).powerDown = s.powerDown := rfl
@[simp] theorem State.writeOption_rp0 (v : Byte) : (s.writeOption v).rp0 = s.rp0 := rfl
@[simp] theorem State.writeOption_rp1 (v : Byte) : (s.writeOption v).rp1 = s.rp1 := rfl
@[simp] theorem State.writeOption_irp (v : Byte) : (s.writeOption v).irp = s.irp := rfl
@[simp] theorem State.writeOption_fsr (v : Byte) : (s.writeOption v).fsr = s.fsr := rfl
@[simp] theorem State.writeOption_pclath (v : Byte) : (s.writeOption v).pclath = s.pclath := rfl
@[simp] theorem State.writeOption_gie (v : Byte) : (s.writeOption v).gie = s.gie := rfl
@[simp] theorem State.writeOption_intcon (v : Byte) : (s.writeOption v).intcon = s.intcon := rfl
@[simp] theorem State.writeOption_optionReg (v : Byte) : (s.writeOption v).optionReg = v := rfl
@[simp] theorem State.writeOption_trisRegs (v : Byte) : (s.writeOption v).trisRegs = s.trisRegs := rfl
@[simp] theorem State.writeOption_latches (v : Byte) : (s.writeOption v).latches = s.latches := rfl
@[simp] theorem State.writeOption_tmr0 (v : Byte) : (s.writeOption v).tmr0 = s.tmr0 := rfl
@[simp] theorem State.writeOption_wdt (v : Byte) : (s.writeOption v).wdt = s.wdt := rfl
@[simp] theorem State.writeOption_prescaler (v : Byte) : (s.writeOption v).prescaler = s.prescaler := rfl
@[simp] theorem State.writeOption_asleep (v : Byte) : (s.writeOption v).asleep = s.asleep := rfl
@[simp] theorem State.writeOption_stack (v : Byte) : (s.writeOption v).stack = s.stack := rfl
@[simp] theorem State.writeOption_stale (v : Byte) : (s.writeOption v).stale = s.stale := rfl
@[simp] theorem State.writeOption_data (v : Byte) : (s.writeOption v).data = s.data := rfl
@[simp] theorem State.writeOption_prog (v : Byte) : (s.writeOption v).prog = s.prog := rfl
@[simp] theorem State.writeOption_cycles (v : Byte) : (s.writeOption v).cycles = s.cycles := rfl
@[simp] theorem State.writeOption_events (v : Byte) : (s.writeOption v).events = .option v :: s.events := rfl
@[simp] theorem State.writeOption_env (v : Byte) : (s.writeOption v).env = s.env := rfl
@[simp] theorem State.writeOption_inputs (v : Byte) : (s.writeOption v).inputs = s.inputs := rfl
@[simp] theorem State.writeOption_tick (v : Byte) : (s.writeOption v).tick = s.tick := rfl

/-! ### `State.writeTris` -/

@[simp] theorem State.writeTris_cfg (p : Port) (v : Byte) : (s.writeTris p v).cfg = s.cfg := rfl
@[simp] theorem State.writeTris_w (p : Port) (v : Byte) : (s.writeTris p v).w = s.w := rfl
@[simp] theorem State.writeTris_pc (p : Port) (v : Byte) : (s.writeTris p v).pc = s.pc := rfl
@[simp] theorem State.writeTris_c (p : Port) (v : Byte) : (s.writeTris p v).c = s.c := rfl
@[simp] theorem State.writeTris_dc (p : Port) (v : Byte) : (s.writeTris p v).dc = s.dc := rfl
@[simp] theorem State.writeTris_z (p : Port) (v : Byte) : (s.writeTris p v).z = s.z := rfl
@[simp] theorem State.writeTris_timeOut (p : Port) (v : Byte) : (s.writeTris p v).timeOut = s.timeOut := rfl
@[simp] theorem State.writeTris_powerDown (p : Port) (v : Byte) : (s.writeTris p v).powerDown = s.powerDown := rfl
@[simp] theorem State.writeTris_rp0 (p : Port) (v : Byte) : (s.writeTris p v).rp0 = s.rp0 := rfl
@[simp] theorem State.writeTris_rp1 (p : Port) (v : Byte) : (s.writeTris p v).rp1 = s.rp1 := rfl
@[simp] theorem State.writeTris_irp (p : Port) (v : Byte) : (s.writeTris p v).irp = s.irp := rfl
@[simp] theorem State.writeTris_fsr (p : Port) (v : Byte) : (s.writeTris p v).fsr = s.fsr := rfl
@[simp] theorem State.writeTris_pclath (p : Port) (v : Byte) : (s.writeTris p v).pclath = s.pclath := rfl
@[simp] theorem State.writeTris_gie (p : Port) (v : Byte) : (s.writeTris p v).gie = s.gie := rfl
@[simp] theorem State.writeTris_intcon (p : Port) (v : Byte) : (s.writeTris p v).intcon = s.intcon := rfl
@[simp] theorem State.writeTris_optionReg (p : Port) (v : Byte) : (s.writeTris p v).optionReg = s.optionReg := rfl
@[simp] theorem State.writeTris_trisRegs (p : Port) (v : Byte) : (s.writeTris p v).trisRegs = s.trisRegs.set p v := rfl
@[simp] theorem State.writeTris_latches (p : Port) (v : Byte) : (s.writeTris p v).latches = s.latches := rfl
@[simp] theorem State.writeTris_tmr0 (p : Port) (v : Byte) : (s.writeTris p v).tmr0 = s.tmr0 := rfl
@[simp] theorem State.writeTris_wdt (p : Port) (v : Byte) : (s.writeTris p v).wdt = s.wdt := rfl
@[simp] theorem State.writeTris_prescaler (p : Port) (v : Byte) : (s.writeTris p v).prescaler = s.prescaler := rfl
@[simp] theorem State.writeTris_asleep (p : Port) (v : Byte) : (s.writeTris p v).asleep = s.asleep := rfl
@[simp] theorem State.writeTris_stack (p : Port) (v : Byte) : (s.writeTris p v).stack = s.stack := rfl
@[simp] theorem State.writeTris_stale (p : Port) (v : Byte) : (s.writeTris p v).stale = s.stale := rfl
@[simp] theorem State.writeTris_data (p : Port) (v : Byte) : (s.writeTris p v).data = s.data := rfl
@[simp] theorem State.writeTris_prog (p : Port) (v : Byte) : (s.writeTris p v).prog = s.prog := rfl
@[simp] theorem State.writeTris_cycles (p : Port) (v : Byte) : (s.writeTris p v).cycles = s.cycles := rfl
@[simp] theorem State.writeTris_events (p : Port) (v : Byte) : (s.writeTris p v).events = .tris p v :: s.events := rfl
@[simp] theorem State.writeTris_env (p : Port) (v : Byte) : (s.writeTris p v).env = s.env := rfl
@[simp] theorem State.writeTris_inputs (p : Port) (v : Byte) : (s.writeTris p v).inputs = s.inputs := rfl
@[simp] theorem State.writeTris_tick (p : Port) (v : Byte) : (s.writeTris p v).tick = s.tick := rfl

/-! ### `State.writeStatus` -/

@[simp] theorem State.writeStatus_cfg (b : Bool) (v : Byte) : (s.writeStatus b v).cfg = s.cfg := rfl
@[simp] theorem State.writeStatus_w (b : Bool) (v : Byte) : (s.writeStatus b v).w = s.w := rfl
@[simp] theorem State.writeStatus_pc (b : Bool) (v : Byte) : (s.writeStatus b v).pc = s.pc := rfl
@[simp] theorem State.writeStatus_c (b : Bool) (v : Byte) : (s.writeStatus b v).c = (if b then s.c else takeBit (statusLayout s.cfg).c v s.c) := rfl
@[simp] theorem State.writeStatus_dc (b : Bool) (v : Byte) : (s.writeStatus b v).dc = (if b then s.dc else takeBit (statusLayout s.cfg).dc v s.dc) := rfl
@[simp] theorem State.writeStatus_z (b : Bool) (v : Byte) : (s.writeStatus b v).z = (if b then s.z else takeBit (statusLayout s.cfg).z v s.z) := rfl
@[simp] theorem State.writeStatus_timeOut (b : Bool) (v : Byte) : (s.writeStatus b v).timeOut = s.timeOut := rfl
@[simp] theorem State.writeStatus_powerDown (b : Bool) (v : Byte) : (s.writeStatus b v).powerDown = s.powerDown := rfl
@[simp] theorem State.writeStatus_rp0 (b : Bool) (v : Byte) : (s.writeStatus b v).rp0 = takeBit (statusLayout s.cfg).rp0 v s.rp0 := rfl
@[simp] theorem State.writeStatus_rp1 (b : Bool) (v : Byte) : (s.writeStatus b v).rp1 = takeBit (statusLayout s.cfg).rp1 v s.rp1 := rfl
@[simp] theorem State.writeStatus_irp (b : Bool) (v : Byte) : (s.writeStatus b v).irp = takeBit (statusLayout s.cfg).irp v s.irp := rfl
@[simp] theorem State.writeStatus_fsr (b : Bool) (v : Byte) : (s.writeStatus b v).fsr = s.fsr := rfl
@[simp] theorem State.writeStatus_pclath (b : Bool) (v : Byte) : (s.writeStatus b v).pclath = s.pclath := rfl
@[simp] theorem State.writeStatus_gie (b : Bool) (v : Byte) : (s.writeStatus b v).gie = s.gie := rfl
@[simp] theorem State.writeStatus_intcon (b : Bool) (v : Byte) : (s.writeStatus b v).intcon = s.intcon := rfl
@[simp] theorem State.writeStatus_optionReg (b : Bool) (v : Byte) : (s.writeStatus b v).optionReg = s.optionReg := rfl
@[simp] theorem State.writeStatus_trisRegs (b : Bool) (v : Byte) : (s.writeStatus b v).trisRegs = s.trisRegs := rfl
@[simp] theorem State.writeStatus_latches (b : Bool) (v : Byte) : (s.writeStatus b v).latches = s.latches := rfl
@[simp] theorem State.writeStatus_tmr0 (b : Bool) (v : Byte) : (s.writeStatus b v).tmr0 = s.tmr0 := rfl
@[simp] theorem State.writeStatus_wdt (b : Bool) (v : Byte) : (s.writeStatus b v).wdt = s.wdt := rfl
@[simp] theorem State.writeStatus_prescaler (b : Bool) (v : Byte) : (s.writeStatus b v).prescaler = s.prescaler := rfl
@[simp] theorem State.writeStatus_asleep (b : Bool) (v : Byte) : (s.writeStatus b v).asleep = s.asleep := rfl
@[simp] theorem State.writeStatus_stack (b : Bool) (v : Byte) : (s.writeStatus b v).stack = s.stack := rfl
@[simp] theorem State.writeStatus_stale (b : Bool) (v : Byte) : (s.writeStatus b v).stale = s.stale := rfl
@[simp] theorem State.writeStatus_data (b : Bool) (v : Byte) : (s.writeStatus b v).data = s.data := rfl
@[simp] theorem State.writeStatus_prog (b : Bool) (v : Byte) : (s.writeStatus b v).prog = s.prog := rfl
@[simp] theorem State.writeStatus_cycles (b : Bool) (v : Byte) : (s.writeStatus b v).cycles = s.cycles := rfl
@[simp] theorem State.writeStatus_events (b : Bool) (v : Byte) : (s.writeStatus b v).events = s.events := rfl
@[simp] theorem State.writeStatus_env (b : Bool) (v : Byte) : (s.writeStatus b v).env = s.env := rfl
@[simp] theorem State.writeStatus_inputs (b : Bool) (v : Byte) : (s.writeStatus b v).inputs = s.inputs := rfl
@[simp] theorem State.writeStatus_tick (b : Bool) (v : Byte) : (s.writeStatus b v).tick = s.tick := rfl

/-! ### `State.setFlags` -/

@[simp] theorem State.setFlags_cfg (u : FlagUpdate) : (s.setFlags u).cfg = s.cfg := by cases u <;> rfl
@[simp] theorem State.setFlags_w (u : FlagUpdate) : (s.setFlags u).w = s.w := by cases u <;> rfl
@[simp] theorem State.setFlags_pc (u : FlagUpdate) : (s.setFlags u).pc = s.pc := by cases u <;> rfl
@[simp] theorem State.setFlags_timeOut (u : FlagUpdate) : (s.setFlags u).timeOut = s.timeOut := by cases u <;> rfl
@[simp] theorem State.setFlags_powerDown (u : FlagUpdate) : (s.setFlags u).powerDown = s.powerDown := by cases u <;> rfl
@[simp] theorem State.setFlags_rp0 (u : FlagUpdate) : (s.setFlags u).rp0 = s.rp0 := by cases u <;> rfl
@[simp] theorem State.setFlags_rp1 (u : FlagUpdate) : (s.setFlags u).rp1 = s.rp1 := by cases u <;> rfl
@[simp] theorem State.setFlags_irp (u : FlagUpdate) : (s.setFlags u).irp = s.irp := by cases u <;> rfl
@[simp] theorem State.setFlags_fsr (u : FlagUpdate) : (s.setFlags u).fsr = s.fsr := by cases u <;> rfl
@[simp] theorem State.setFlags_pclath (u : FlagUpdate) : (s.setFlags u).pclath = s.pclath := by cases u <;> rfl
@[simp] theorem State.setFlags_gie (u : FlagUpdate) : (s.setFlags u).gie = s.gie := by cases u <;> rfl
@[simp] theorem State.setFlags_intcon (u : FlagUpdate) : (s.setFlags u).intcon = s.intcon := by cases u <;> rfl
@[simp] theorem State.setFlags_optionReg (u : FlagUpdate) : (s.setFlags u).optionReg = s.optionReg := by cases u <;> rfl
@[simp] theorem State.setFlags_trisRegs (u : FlagUpdate) : (s.setFlags u).trisRegs = s.trisRegs := by cases u <;> rfl
@[simp] theorem State.setFlags_latches (u : FlagUpdate) : (s.setFlags u).latches = s.latches := by cases u <;> rfl
@[simp] theorem State.setFlags_tmr0 (u : FlagUpdate) : (s.setFlags u).tmr0 = s.tmr0 := by cases u <;> rfl
@[simp] theorem State.setFlags_wdt (u : FlagUpdate) : (s.setFlags u).wdt = s.wdt := by cases u <;> rfl
@[simp] theorem State.setFlags_prescaler (u : FlagUpdate) : (s.setFlags u).prescaler = s.prescaler := by cases u <;> rfl
@[simp] theorem State.setFlags_asleep (u : FlagUpdate) : (s.setFlags u).asleep = s.asleep := by cases u <;> rfl
@[simp] theorem State.setFlags_stack (u : FlagUpdate) : (s.setFlags u).stack = s.stack := by cases u <;> rfl
@[simp] theorem State.setFlags_stale (u : FlagUpdate) : (s.setFlags u).stale = s.stale := by cases u <;> rfl
@[simp] theorem State.setFlags_data (u : FlagUpdate) : (s.setFlags u).data = s.data := by cases u <;> rfl
@[simp] theorem State.setFlags_prog (u : FlagUpdate) : (s.setFlags u).prog = s.prog := by cases u <;> rfl
@[simp] theorem State.setFlags_cycles (u : FlagUpdate) : (s.setFlags u).cycles = s.cycles := by cases u <;> rfl
@[simp] theorem State.setFlags_events (u : FlagUpdate) : (s.setFlags u).events = s.events := by cases u <;> rfl
@[simp] theorem State.setFlags_env (u : FlagUpdate) : (s.setFlags u).env = s.env := by cases u <;> rfl
@[simp] theorem State.setFlags_inputs (u : FlagUpdate) : (s.setFlags u).inputs = s.inputs := by cases u <;> rfl
@[simp] theorem State.setFlags_tick (u : FlagUpdate) : (s.setFlags u).tick = s.tick := by cases u <;> rfl

/-! ### `State.writeLoc` -/

@[simp] theorem State.writeLoc_cfg (l : FileLoc) (b : Bool) (v : Byte) : (s.writeLoc l b v).cfg = s.cfg := by cases l <;> rfl
@[simp] theorem State.writeLoc_w (l : FileLoc) (b : Bool) (v : Byte) : (s.writeLoc l b v).w = s.w := by cases l <;> rfl
@[simp] theorem State.writeLoc_timeOut (l : FileLoc) (b : Bool) (v : Byte) : (s.writeLoc l b v).timeOut = s.timeOut := by cases l <;> rfl
@[simp] theorem State.writeLoc_powerDown (l : FileLoc) (b : Bool) (v : Byte) : (s.writeLoc l b v).powerDown = s.powerDown := by cases l <;> rfl
@[simp] theorem State.writeLoc_wdt (l : FileLoc) (b : Bool) (v : Byte) : (s.writeLoc l b v).wdt = s.wdt := by cases l <;> rfl
@[simp] theorem State.writeLoc_asleep (l : FileLoc) (b : Bool) (v : Byte) : (s.writeLoc l b v).asleep = s.asleep := by cases l <;> rfl
@[simp] theorem State.writeLoc_stack (l : FileLoc) (b : Bool) (v : Byte) : (s.writeLoc l b v).stack = s.stack := by cases l <;> rfl
@[simp] theorem State.writeLoc_stale (l : FileLoc) (b : Bool) (v : Byte) : (s.writeLoc l b v).stale = s.stale := by cases l <;> rfl
@[simp] theorem State.writeLoc_prog (l : FileLoc) (b : Bool) (v : Byte) : (s.writeLoc l b v).prog = s.prog := by cases l <;> rfl
@[simp] theorem State.writeLoc_cycles (l : FileLoc) (b : Bool) (v : Byte) : (s.writeLoc l b v).cycles = s.cycles := by cases l <;> rfl
@[simp] theorem State.writeLoc_env (l : FileLoc) (b : Bool) (v : Byte) : (s.writeLoc l b v).env = s.env := by cases l <;> rfl
@[simp] theorem State.writeLoc_inputs (l : FileLoc) (b : Bool) (v : Byte) : (s.writeLoc l b v).inputs = s.inputs := by cases l <;> rfl
@[simp] theorem State.writeLoc_tick (l : FileLoc) (b : Bool) (v : Byte) : (s.writeLoc l b v).tick = s.tick := by cases l <;> rfl

/-! ### `State.finishWrite` -/

@[simp] theorem State.finishWrite_cfg (l : FileLoc) : (s.finishWrite l).cfg = s.cfg := by cases l <;> rfl
@[simp] theorem State.finishWrite_w (l : FileLoc) : (s.finishWrite l).w = s.w := by cases l <;> rfl
@[simp] theorem State.finishWrite_c (l : FileLoc) : (s.finishWrite l).c = s.c := by cases l <;> rfl
@[simp] theorem State.finishWrite_dc (l : FileLoc) : (s.finishWrite l).dc = s.dc := by cases l <;> rfl
@[simp] theorem State.finishWrite_z (l : FileLoc) : (s.finishWrite l).z = s.z := by cases l <;> rfl
@[simp] theorem State.finishWrite_timeOut (l : FileLoc) : (s.finishWrite l).timeOut = s.timeOut := by cases l <;> rfl
@[simp] theorem State.finishWrite_powerDown (l : FileLoc) : (s.finishWrite l).powerDown = s.powerDown := by cases l <;> rfl
@[simp] theorem State.finishWrite_rp0 (l : FileLoc) : (s.finishWrite l).rp0 = s.rp0 := by cases l <;> rfl
@[simp] theorem State.finishWrite_rp1 (l : FileLoc) : (s.finishWrite l).rp1 = s.rp1 := by cases l <;> rfl
@[simp] theorem State.finishWrite_irp (l : FileLoc) : (s.finishWrite l).irp = s.irp := by cases l <;> rfl
@[simp] theorem State.finishWrite_fsr (l : FileLoc) : (s.finishWrite l).fsr = s.fsr := by cases l <;> rfl
@[simp] theorem State.finishWrite_pclath (l : FileLoc) : (s.finishWrite l).pclath = s.pclath := by cases l <;> rfl
@[simp] theorem State.finishWrite_gie (l : FileLoc) : (s.finishWrite l).gie = s.gie := by cases l <;> rfl
@[simp] theorem State.finishWrite_intcon (l : FileLoc) : (s.finishWrite l).intcon = s.intcon := by cases l <;> rfl
@[simp] theorem State.finishWrite_optionReg (l : FileLoc) : (s.finishWrite l).optionReg = s.optionReg := by cases l <;> rfl
@[simp] theorem State.finishWrite_trisRegs (l : FileLoc) : (s.finishWrite l).trisRegs = s.trisRegs := by cases l <;> rfl
@[simp] theorem State.finishWrite_latches (l : FileLoc) : (s.finishWrite l).latches = s.latches := by cases l <;> rfl
@[simp] theorem State.finishWrite_tmr0 (l : FileLoc) : (s.finishWrite l).tmr0 = s.tmr0 := by cases l <;> rfl
@[simp] theorem State.finishWrite_wdt (l : FileLoc) : (s.finishWrite l).wdt = s.wdt := by cases l <;> rfl
@[simp] theorem State.finishWrite_prescaler (l : FileLoc) : (s.finishWrite l).prescaler = s.prescaler := by cases l <;> rfl
@[simp] theorem State.finishWrite_asleep (l : FileLoc) : (s.finishWrite l).asleep = s.asleep := by cases l <;> rfl
@[simp] theorem State.finishWrite_stack (l : FileLoc) : (s.finishWrite l).stack = s.stack := by cases l <;> rfl
@[simp] theorem State.finishWrite_stale (l : FileLoc) : (s.finishWrite l).stale = s.stale := by cases l <;> rfl
@[simp] theorem State.finishWrite_data (l : FileLoc) : (s.finishWrite l).data = s.data := by cases l <;> rfl
@[simp] theorem State.finishWrite_prog (l : FileLoc) : (s.finishWrite l).prog = s.prog := by cases l <;> rfl
@[simp] theorem State.finishWrite_events (l : FileLoc) : (s.finishWrite l).events = s.events := by cases l <;> rfl
@[simp] theorem State.finishWrite_env (l : FileLoc) : (s.finishWrite l).env = s.env := by cases l <;> rfl
@[simp] theorem State.finishWrite_inputs (l : FileLoc) : (s.finishWrite l).inputs = s.inputs := by cases l <;> rfl
@[simp] theorem State.finishWrite_tick (l : FileLoc) : (s.finishWrite l).tick = s.tick := by cases l <;> rfl

/-! ### `State.toDest` -/

@[simp] theorem State.toDest_cfg (l : FileLoc) (d : Dest) (out : Computed) : (s.toDest l d out).cfg = s.cfg := by cases d <;> simp [State.toDest]
@[simp] theorem State.toDest_timeOut (l : FileLoc) (d : Dest) (out : Computed) : (s.toDest l d out).timeOut = s.timeOut := by cases d <;> simp [State.toDest]
@[simp] theorem State.toDest_powerDown (l : FileLoc) (d : Dest) (out : Computed) : (s.toDest l d out).powerDown = s.powerDown := by cases d <;> simp [State.toDest]
@[simp] theorem State.toDest_wdt (l : FileLoc) (d : Dest) (out : Computed) : (s.toDest l d out).wdt = s.wdt := by cases d <;> simp [State.toDest]
@[simp] theorem State.toDest_asleep (l : FileLoc) (d : Dest) (out : Computed) : (s.toDest l d out).asleep = s.asleep := by cases d <;> simp [State.toDest]
@[simp] theorem State.toDest_stack (l : FileLoc) (d : Dest) (out : Computed) : (s.toDest l d out).stack = s.stack := by cases d <;> simp [State.toDest]
@[simp] theorem State.toDest_stale (l : FileLoc) (d : Dest) (out : Computed) : (s.toDest l d out).stale = s.stale := by cases d <;> simp [State.toDest]
@[simp] theorem State.toDest_prog (l : FileLoc) (d : Dest) (out : Computed) : (s.toDest l d out).prog = s.prog := by cases d <;> simp [State.toDest]
@[simp] theorem State.toDest_cycles (l : FileLoc) (d : Dest) (out : Computed) : (s.toDest l d out).cycles = s.cycles := by cases d <;> simp [State.toDest]
@[simp] theorem State.toDest_env (l : FileLoc) (d : Dest) (out : Computed) : (s.toDest l d out).env = s.env := by cases d <;> simp [State.toDest]
@[simp] theorem State.toDest_inputs (l : FileLoc) (d : Dest) (out : Computed) : (s.toDest l d out).inputs = s.inputs := by cases d <;> simp [State.toDest]
@[simp] theorem State.toDest_tick (l : FileLoc) (d : Dest) (out : Computed) : (s.toDest l d out).tick = s.tick := by cases d <;> simp [State.toDest]

/-! ### `State.finishDest` -/

@[simp] theorem State.finishDest_cfg (l : FileLoc) (d : Dest) : (s.finishDest l d).cfg = s.cfg := by cases d <;> simp [State.finishDest]
@[simp] theorem State.finishDest_w (l : FileLoc) (d : Dest) : (s.finishDest l d).w = s.w := by cases d <;> simp [State.finishDest]
@[simp] theorem State.finishDest_c (l : FileLoc) (d : Dest) : (s.finishDest l d).c = s.c := by cases d <;> simp [State.finishDest]
@[simp] theorem State.finishDest_dc (l : FileLoc) (d : Dest) : (s.finishDest l d).dc = s.dc := by cases d <;> simp [State.finishDest]
@[simp] theorem State.finishDest_z (l : FileLoc) (d : Dest) : (s.finishDest l d).z = s.z := by cases d <;> simp [State.finishDest]
@[simp] theorem State.finishDest_timeOut (l : FileLoc) (d : Dest) : (s.finishDest l d).timeOut = s.timeOut := by cases d <;> simp [State.finishDest]
@[simp] theorem State.finishDest_powerDown (l : FileLoc) (d : Dest) : (s.finishDest l d).powerDown = s.powerDown := by cases d <;> simp [State.finishDest]
@[simp] theorem State.finishDest_rp0 (l : FileLoc) (d : Dest) : (s.finishDest l d).rp0 = s.rp0 := by cases d <;> simp [State.finishDest]
@[simp] theorem State.finishDest_rp1 (l : FileLoc) (d : Dest) : (s.finishDest l d).rp1 = s.rp1 := by cases d <;> simp [State.finishDest]
@[simp] theorem State.finishDest_irp (l : FileLoc) (d : Dest) : (s.finishDest l d).irp = s.irp := by cases d <;> simp [State.finishDest]
@[simp] theorem State.finishDest_fsr (l : FileLoc) (d : Dest) : (s.finishDest l d).fsr = s.fsr := by cases d <;> simp [State.finishDest]
@[simp] theorem State.finishDest_pclath (l : FileLoc) (d : Dest) : (s.finishDest l d).pclath = s.pclath := by cases d <;> simp [State.finishDest]
@[simp] theorem State.finishDest_gie (l : FileLoc) (d : Dest) : (s.finishDest l d).gie = s.gie := by cases d <;> simp [State.finishDest]
@[simp] theorem State.finishDest_intcon (l : FileLoc) (d : Dest) : (s.finishDest l d).intcon = s.intcon := by cases d <;> simp [State.finishDest]
@[simp] theorem State.finishDest_optionReg (l : FileLoc) (d : Dest) : (s.finishDest l d).optionReg = s.optionReg := by cases d <;> simp [State.finishDest]
@[simp] theorem State.finishDest_trisRegs (l : FileLoc) (d : Dest) : (s.finishDest l d).trisRegs = s.trisRegs := by cases d <;> simp [State.finishDest]
@[simp] theorem State.finishDest_latches (l : FileLoc) (d : Dest) : (s.finishDest l d).latches = s.latches := by cases d <;> simp [State.finishDest]
@[simp] theorem State.finishDest_tmr0 (l : FileLoc) (d : Dest) : (s.finishDest l d).tmr0 = s.tmr0 := by cases d <;> simp [State.finishDest]
@[simp] theorem State.finishDest_wdt (l : FileLoc) (d : Dest) : (s.finishDest l d).wdt = s.wdt := by cases d <;> simp [State.finishDest]
@[simp] theorem State.finishDest_prescaler (l : FileLoc) (d : Dest) : (s.finishDest l d).prescaler = s.prescaler := by cases d <;> simp [State.finishDest]
@[simp] theorem State.finishDest_asleep (l : FileLoc) (d : Dest) : (s.finishDest l d).asleep = s.asleep := by cases d <;> simp [State.finishDest]
@[simp] theorem State.finishDest_stack (l : FileLoc) (d : Dest) : (s.finishDest l d).stack = s.stack := by cases d <;> simp [State.finishDest]
@[simp] theorem State.finishDest_stale (l : FileLoc) (d : Dest) : (s.finishDest l d).stale = s.stale := by cases d <;> simp [State.finishDest]
@[simp] theorem State.finishDest_data (l : FileLoc) (d : Dest) : (s.finishDest l d).data = s.data := by cases d <;> simp [State.finishDest]
@[simp] theorem State.finishDest_prog (l : FileLoc) (d : Dest) : (s.finishDest l d).prog = s.prog := by cases d <;> simp [State.finishDest]
@[simp] theorem State.finishDest_events (l : FileLoc) (d : Dest) : (s.finishDest l d).events = s.events := by cases d <;> simp [State.finishDest]
@[simp] theorem State.finishDest_env (l : FileLoc) (d : Dest) : (s.finishDest l d).env = s.env := by cases d <;> simp [State.finishDest]
@[simp] theorem State.finishDest_inputs (l : FileLoc) (d : Dest) : (s.finishDest l d).inputs = s.inputs := by cases d <;> simp [State.finishDest]
@[simp] theorem State.finishDest_tick (l : FileLoc) (d : Dest) : (s.finishDest l d).tick = s.tick := by cases d <;> simp [State.finishDest]

/-! ### `State.arrive` -/

@[simp] theorem State.arrive_cfg : s.arrive.cfg = s.cfg := rfl
@[simp] theorem State.arrive_w : s.arrive.w = s.w := rfl
@[simp] theorem State.arrive_pc : s.arrive.pc = s.pc := rfl
@[simp] theorem State.arrive_c : s.arrive.c = s.c := rfl
@[simp] theorem State.arrive_dc : s.arrive.dc = s.dc := rfl
@[simp] theorem State.arrive_z : s.arrive.z = s.z := rfl
@[simp] theorem State.arrive_timeOut : s.arrive.timeOut = s.timeOut := rfl
@[simp] theorem State.arrive_powerDown : s.arrive.powerDown = s.powerDown := rfl
@[simp] theorem State.arrive_rp0 : s.arrive.rp0 = s.rp0 := rfl
@[simp] theorem State.arrive_rp1 : s.arrive.rp1 = s.rp1 := rfl
@[simp] theorem State.arrive_irp : s.arrive.irp = s.irp := rfl
@[simp] theorem State.arrive_fsr : s.arrive.fsr = s.fsr := rfl
@[simp] theorem State.arrive_pclath : s.arrive.pclath = s.pclath := rfl
@[simp] theorem State.arrive_gie : s.arrive.gie = s.gie := rfl
@[simp] theorem State.arrive_intcon : 
    s.arrive.intcon = s.intcon ||| ((s.inputs.headD {}).intFlags &&& requestBits s.cfg) := rfl
@[simp] theorem State.arrive_optionReg : s.arrive.optionReg = s.optionReg := rfl
@[simp] theorem State.arrive_trisRegs : s.arrive.trisRegs = s.trisRegs := rfl
@[simp] theorem State.arrive_latches : s.arrive.latches = s.latches := rfl
@[simp] theorem State.arrive_tmr0 : s.arrive.tmr0 = s.tmr0 := rfl
@[simp] theorem State.arrive_wdt : s.arrive.wdt = s.wdt + (s.inputs.headD {}).wdtTicks := rfl
@[simp] theorem State.arrive_prescaler : s.arrive.prescaler = s.prescaler + (s.inputs.headD {}).prescalerTicks := rfl
@[simp] theorem State.arrive_asleep : s.arrive.asleep = s.asleep := rfl
@[simp] theorem State.arrive_stack : s.arrive.stack = s.stack := rfl
@[simp] theorem State.arrive_stale : s.arrive.stale = s.stale := rfl
@[simp] theorem State.arrive_data : s.arrive.data = s.data := rfl
@[simp] theorem State.arrive_prog : s.arrive.prog = s.prog := rfl
@[simp] theorem State.arrive_cycles : s.arrive.cycles = s.cycles := rfl
@[simp] theorem State.arrive_events : s.arrive.events = s.events := rfl
@[simp] theorem State.arrive_env : s.arrive.env = s.inputs.headD {} := rfl
@[simp] theorem State.arrive_inputs : s.arrive.inputs = s.inputs.tail := rfl
@[simp] theorem State.arrive_tick : s.arrive.tick = s.tick + 1 := rfl

/-! ### The written fields of the updates that go by cases -/

@[simp] theorem State.setFlags_unlisted : s.setFlags .unlisted = s := rfl
@[simp] theorem State.setFlags_z (z : Bool) : s.setFlags (.z z) = { s with z := z } := rfl
@[simp] theorem State.setFlags_c (c : Bool) : s.setFlags (.c c) = { s with c := c } := rfl
@[simp] theorem State.setFlags_cdcz (c dc z : Bool) :
    s.setFlags (.cdcz c dc z) = { s with c := c, dc := dc, z := z } := rfl

@[simp] theorem State.writeLoc_plain (a : Nat) (b : Bool) (v : Byte) :
    s.writeLoc (.plain a) b v = { s with data := Memory.write s.data a v } := rfl
@[simp] theorem State.writeLoc_null (b : Bool) (v : Byte) : s.writeLoc .null b v = s := rfl
@[simp] theorem State.writeLoc_option (b : Bool) (v : Byte) : s.writeLoc .option b v = s.writeOption v := rfl
@[simp] theorem State.writeLoc_status (b : Bool) (v : Byte) : s.writeLoc .status b v = s.writeStatus b v := rfl
@[simp] theorem State.writeLoc_fsr (b : Bool) (v : Byte) : s.writeLoc .fsr b v = { s with fsr := v } := rfl
@[simp] theorem State.writeLoc_tris (p : Port) (b : Bool) (v : Byte) :
    s.writeLoc (.tris p) b v = s.writeTris p v := rfl
@[simp] theorem State.writeLoc_port (p : Port) (b : Bool) (v : Byte) :
    s.writeLoc (.port p) b v = { s with latches := s.latches.set p v, events := .port p v :: s.events } := rfl
@[simp] theorem State.writeLoc_pclath (b : Bool) (v : Byte) :
    s.writeLoc .pclath b v = { s with pclath := v.setWidth 5 } := rfl
@[simp] theorem State.writeLoc_intcon (b : Bool) (v : Byte) :
    s.writeLoc .intcon b v = { s with gie := v.getLsbD 7, intcon := v.setWidth 7 } := rfl
@[simp] theorem State.writeLoc_pcl (b : Bool) (v : Byte) :
    s.writeLoc .pcl b v = { s with pc := (s.pclath ++ v).cast rfl } := rfl
@[simp] theorem State.writeLoc_tmr0 (b : Bool) (v : Byte) :
    s.writeLoc .tmr0 b v =
      { s with
        tmr0 := v
        prescaler := if s.prescalerToTimer0 then 0 else s.prescaler
        events := .tmr0 v :: s.events } := rfl

@[simp] theorem State.toDest_toW (l : FileLoc) (out : Computed) :
    s.toDest l .w out = (s.setFlags out.2).setW out.1 := rfl
@[simp] theorem State.toDest_toFile (l : FileLoc) (out : Computed) :
    s.toDest l .f out = (s.setFlags out.2).writeLoc l out.2.lists out.1 := rfl

@[simp] theorem State.finishWrite_pcl : s.finishWrite .pcl = { s with cycles := s.cycles + 2 } := rfl

/-- Anywhere but at the program counter's low byte a write ends as any instruction does. -/
theorem State.finishWrite_of_ne_pcl (l : FileLoc) (h : l ≠ .pcl) : s.finishWrite l = s.advance := by
  cases l <;> first | rfl | exact absurd rfl h

@[simp] theorem State.finishDest_toW (l : FileLoc) : s.finishDest l .w = s.advance := rfl
@[simp] theorem State.finishDest_toFile (l : FileLoc) : s.finishDest l .f = s.finishWrite l := rfl

/-! ### Port registers -/

@[simp] theorem PortRegs.get_set_same (r : PortRegs) (p : Port) (v : Byte) : (r.set p v).get p = v := by
  cases p <;> rfl

theorem PortRegs.get_set_of_ne (r : PortRegs) (p q : Port) (v : Byte) (h : q ≠ p) :
    (r.set p v).get q = r.get q := by
  cases p <;> cases q <;> first | rfl | exact absurd rfl h

/-! ### Resets -/

@[simp] theorem State.resetProfile_cfg : s.resetProfile.cfg = s.cfg := by
  unfold State.resetProfile; split <;> rfl
@[simp] theorem State.resetProfile_w : s.resetProfile.w = s.w := by
  unfold State.resetProfile; split <;> rfl
@[simp] theorem State.resetProfile_pc : s.resetProfile.pc = s.pc := by
  unfold State.resetProfile; split <;> rfl
@[simp] theorem State.resetProfile_c : s.resetProfile.c = s.c := by
  unfold State.resetProfile; split <;> rfl
@[simp] theorem State.resetProfile_dc : s.resetProfile.dc = s.dc := by
  unfold State.resetProfile; split <;> rfl
@[simp] theorem State.resetProfile_z : s.resetProfile.z = s.z := by
  unfold State.resetProfile; split <;> rfl
@[simp] theorem State.resetProfile_timeOut : s.resetProfile.timeOut = s.timeOut := by
  unfold State.resetProfile; split <;> rfl
@[simp] theorem State.resetProfile_powerDown : s.resetProfile.powerDown = s.powerDown := by
  unfold State.resetProfile; split <;> rfl
@[simp] theorem State.resetProfile_fsr : s.resetProfile.fsr = s.fsr := by
  unfold State.resetProfile; split <;> rfl
@[simp] theorem State.resetProfile_pclath : s.resetProfile.pclath = s.pclath := by
  unfold State.resetProfile; split <;> rfl
@[simp] theorem State.resetProfile_gie : s.resetProfile.gie = s.gie := by
  unfold State.resetProfile; split <;> rfl
@[simp] theorem State.resetProfile_intcon : s.resetProfile.intcon = s.intcon := by
  unfold State.resetProfile; split <;> rfl
@[simp] theorem State.resetProfile_latches : s.resetProfile.latches = s.latches := by
  unfold State.resetProfile; split <;> rfl
@[simp] theorem State.resetProfile_tmr0 : s.resetProfile.tmr0 = s.tmr0 := by
  unfold State.resetProfile; split <;> rfl
@[simp] theorem State.resetProfile_wdt : s.resetProfile.wdt = s.wdt := by
  unfold State.resetProfile; split <;> rfl
@[simp] theorem State.resetProfile_prescaler : s.resetProfile.prescaler = s.prescaler := by
  unfold State.resetProfile; split <;> rfl
@[simp] theorem State.resetProfile_asleep : s.resetProfile.asleep = s.asleep := by
  unfold State.resetProfile; split <;> rfl
@[simp] theorem State.resetProfile_stack : s.resetProfile.stack = s.stack := by
  unfold State.resetProfile; split <;> rfl
@[simp] theorem State.resetProfile_stale : s.resetProfile.stale = s.stale := by
  unfold State.resetProfile; split <;> rfl
@[simp] theorem State.resetProfile_data : s.resetProfile.data = s.data := by
  unfold State.resetProfile; split <;> rfl
@[simp] theorem State.resetProfile_prog : s.resetProfile.prog = s.prog := by
  unfold State.resetProfile; split <;> rfl
@[simp] theorem State.resetProfile_cycles : s.resetProfile.cycles = s.cycles := by
  unfold State.resetProfile; split <;> rfl
@[simp] theorem State.resetProfile_events : s.resetProfile.events = s.events := by
  unfold State.resetProfile; split <;> rfl
@[simp] theorem State.resetProfile_env : s.resetProfile.env = s.env := by
  unfold State.resetProfile; split <;> rfl
@[simp] theorem State.resetProfile_inputs : s.resetProfile.inputs = s.inputs := by
  unfold State.resetProfile; split <;> rfl
@[simp] theorem State.resetProfile_tick : s.resetProfile.tick = s.tick := by
  unfold State.resetProfile; split <;> rfl
@[simp] theorem State.resetBy_cfg (cause : ResetCause) : (s.resetBy cause).cfg = s.cfg := by
  simp [State.resetBy]
@[simp] theorem State.resetBy_w (cause : ResetCause) : (s.resetBy cause).w = s.w := by
  simp [State.resetBy]
@[simp] theorem State.resetBy_pc (cause : ResetCause) : (s.resetBy cause).pc = s.cfg.resetVector := rfl
@[simp] theorem State.resetBy_c (cause : ResetCause) : (s.resetBy cause).c = s.c := by
  simp [State.resetBy]
@[simp] theorem State.resetBy_dc (cause : ResetCause) : (s.resetBy cause).dc = s.dc := by
  simp [State.resetBy]
@[simp] theorem State.resetBy_z (cause : ResetCause) : (s.resetBy cause).z = s.z := by
  simp [State.resetBy]
@[simp] theorem State.resetBy_timeOut (cause : ResetCause) : (s.resetBy cause).timeOut = cause.timeOut s.timeOut := rfl
@[simp] theorem State.resetBy_powerDown (cause : ResetCause) : (s.resetBy cause).powerDown = cause.powerDown s.powerDown := rfl
@[simp] theorem State.resetBy_fsr (cause : ResetCause) : (s.resetBy cause).fsr = s.fsr := by
  simp [State.resetBy]
@[simp] theorem State.resetBy_pclath (cause : ResetCause) : (s.resetBy cause).pclath = 0#5 := rfl
@[simp] theorem State.resetBy_gie (cause : ResetCause) : (s.resetBy cause).gie = false := rfl
@[simp] theorem State.resetBy_intcon (cause : ResetCause) : (s.resetBy cause).intcon = s.intcon := by
  simp [State.resetBy]
@[simp] theorem State.resetBy_latches (cause : ResetCause) : (s.resetBy cause).latches = s.latches := by
  simp [State.resetBy]
@[simp] theorem State.resetBy_tmr0 (cause : ResetCause) : (s.resetBy cause).tmr0 = s.tmr0 := by
  simp [State.resetBy]
@[simp] theorem State.resetBy_wdt (cause : ResetCause) : (s.resetBy cause).wdt = 0 := rfl
@[simp] theorem State.resetBy_prescaler (cause : ResetCause) : (s.resetBy cause).prescaler = 0 := rfl
@[simp] theorem State.resetBy_asleep (cause : ResetCause) : (s.resetBy cause).asleep = false := rfl
@[simp] theorem State.resetBy_stack (cause : ResetCause) : (s.resetBy cause).stack = [] := rfl
@[simp] theorem State.resetBy_stale (cause : ResetCause) : (s.resetBy cause).stale = [] := rfl
@[simp] theorem State.resetBy_data (cause : ResetCause) : (s.resetBy cause).data = s.data := by
  simp [State.resetBy]
@[simp] theorem State.resetBy_prog (cause : ResetCause) : (s.resetBy cause).prog = s.prog := by
  simp [State.resetBy]
@[simp] theorem State.resetBy_cycles (cause : ResetCause) : (s.resetBy cause).cycles = s.cycles := by
  simp [State.resetBy]
@[simp] theorem State.resetBy_events (cause : ResetCause) : (s.resetBy cause).events = s.events := by
  simp [State.resetBy]
@[simp] theorem State.resetBy_env (cause : ResetCause) : (s.resetBy cause).env = s.env := by
  simp [State.resetBy]
@[simp] theorem State.resetBy_inputs (cause : ResetCause) : (s.resetBy cause).inputs = s.inputs := by
  simp [State.resetBy]
@[simp] theorem State.resetBy_tick (cause : ResetCause) : (s.resetBy cause).tick = s.tick := by
  simp [State.resetBy]
theorem State.resetBy_irp (cause : ResetCause) : (s.resetBy cause).irp = s.resetProfile.irp := rfl
theorem State.resetBy_optionReg (cause : ResetCause) : (s.resetBy cause).optionReg = s.resetProfile.optionReg := rfl
theorem State.resetBy_rp0 (cause : ResetCause) : (s.resetBy cause).rp0 = s.resetProfile.rp0 := rfl
theorem State.resetBy_rp1 (cause : ResetCause) : (s.resetBy cause).rp1 = s.resetProfile.rp1 := rfl
theorem State.resetBy_trisRegs (cause : ResetCause) : (s.resetBy cause).trisRegs = s.resetProfile.trisRegs := rfl

end Sys2Proof.Machine
end

