-- ==== Sys2Proof/Laws/Operands.lean ====
section
/-! SUPPORT. What the operand forms and the shared instruction shapes can do, said once. -/

namespace Sys2Proof.Machine

/-! ### The location a file field designates -/

theorem State.ea_of_no_profile (s : State) (f : FileField) (h : s.cfg.profile = .none) :
    s.ea f = .ok (.plain f.toNat) := by
  simp [State.ea, h]

theorem State.ea_of_direct (s : State) (f : FileField) (h : s.cfg.profile = .p16) (hf : f ≠ 0#7) :
    s.ea f = p16Loc s.cfg (s.directAddress f) := by
  simp [State.ea, h, hf]

theorem State.ea_of_indirect (s : State) (h : s.cfg.profile = .p16) :
    s.ea 0#7 = p16Loc s.cfg s.indirectAddress := by
  simp [State.ea, h]

theorem State.ea_of_table (s : State) (f : FileField) {map : RegisterMap} (h : s.cfg.profile = .table map) :
    s.ea f = locate map.rows (s.mapAddress map f) := by
  simp [State.ea, h]

/-- Everything the rows of a register map can answer: the location in a row that holds the address, or that no row
holds it. -/
theorem locate_cases (rows : List MapRow) (a : Nat) :
    (∃ row ∈ rows, row.first ≤ a ∧ a ≤ row.last ∧ locate rows a = .ok (locationIn row a)) ∨
      ((∀ row ∈ rows, a < row.first ∨ row.last < a) ∧ locate rows a = .error (.unmappedFile a)) := by
  induction rows with
  | nil => exact .inr ⟨by simp, rfl⟩
  | cons row rest ih =>
    by_cases h : row.first ≤ a ∧ a ≤ row.last
    · exact .inl ⟨row, by simp, h.1, h.2, by rw [locate, if_pos h]⟩
    · rw [locate, if_neg h]
      rcases ih with ⟨r, hr, h1, h2, e⟩ | ⟨hn, e⟩
      · exact .inl ⟨r, by simp [hr], h1, h2, e⟩
      · refine .inr ⟨fun r hr => ?_, e⟩
        rcases List.mem_cons.mp hr with rfl | hr
        · omega
        · exact hn r hr

/-- A plain location in a row lies within the storage of that row. -/
theorem locationIn_plain {row : MapRow} {a b : Nat} (h : locationIn row a = .plain b) :
    ∃ c, row.loc = .plain c ∧ b = c + (a - row.first) := by
  unfold locationIn at h
  split at h
  · rename_i c hc
    exact ⟨c, hc, (FileLoc.plain.inj h).symm⟩
  · rename_i hn
    exact absurd h (hn b)

/-- A port's file address designates the port, its TRIS register, or nothing. -/
theorem portLoc_cases {cfg : Config} {p : Port} {a : Nat} {l : FileLoc} (h : portLoc cfg p a = .ok l) :
    l = .port p ∨ l = .tris p := by
  unfold portLoc at h
  split at h
  · split at h
    · exact .inl (Except.ok.inj h).symm
    · exact .inr (Except.ok.inj h).symm
    · cases h
  · cases h

/-- A plain location of profile P16 is the data address itself. -/
theorem p16Loc_plain {cfg : Config} {a b : Nat} (h : p16Loc cfg a = .ok (.plain b)) : b = a := by
  unfold p16Loc at h
  split at h
  · cases h
  · split at h
    case h_2 => split at h <;> cases h
    case h_6 => rcases portLoc_cases h with h' | h' <;> cases h'
    case h_7 => rcases portLoc_cases h with h' | h' <;> cases h'
    case h_8 => rcases portLoc_cases h with h' | h' <;> cases h'
    case h_11 =>
      split at h
      · exact (FileLoc.plain.inj (Except.ok.inj h)).symm
      · cases h
    all_goals cases h

/-- A data address of a direct access has nine bits. -/
theorem State.directAddress_lt (s : State) (f : FileField) : s.directAddress f < 512 :=
  BitVec.isLt _

/-- A data address of an indirect access has nine bits. -/
theorem State.indirectAddress_lt (s : State) : s.indirectAddress < 512 :=
  BitVec.isLt _

/-! ### The instruction shapes: where each stops and what it answers otherwise -/

theorem byteOriented_of_ok {s : State} {f : FileField} {l : FileLoc} (d : Dest) (compute : Byte → Computed)
    (h : s.ea f = .ok l) :
    byteOriented f d compute s = .next ((s.toDest l d (compute (s.readLoc l))).finishDest l d) := by
  simp [byteOriented, h]

theorem byteOriented_of_error {s : State} {f : FileField} {r : Fault} (d : Dest) (compute : Byte → Computed)
    (h : s.ea f = .error r) : byteOriented f d compute s = .fault r := by
  simp [byteOriented, h]

/-- Everything a byte-oriented instruction can do, if it answers a state. -/
theorem byteOriented_cases {s t : State} {f : FileField} {d : Dest} {compute : Byte → Computed}
    (h : byteOriented f d compute s = .next t) :
    ∃ l, s.ea f = .ok l ∧ t = (s.toDest l d (compute (s.readLoc l))).finishDest l d := by
  unfold byteOriented at h
  split at h
  · cases h
  · rename_i l hl
    exact ⟨l, hl, (Host.Outcome.next.inj h).symm⟩

theorem fileWrite_of_ok {s : State} {f : FileField} {l : FileLoc} (out : Computed) (h : s.ea f = .ok l) :
    fileWrite f out s = .next ((s.toDest l .f out).finishWrite l) := by
  simp [fileWrite, h]

theorem fileWrite_of_error {s : State} {f : FileField} {r : Fault} (out : Computed) (h : s.ea f = .error r) :
    fileWrite f out s = .fault r := by
  simp [fileWrite, h]

/-- Everything CLRF and MOVWF can do, if they answer a state. -/
theorem fileWrite_cases {s t : State} {f : FileField} {out : Computed} (h : fileWrite f out s = .next t) :
    ∃ l, s.ea f = .ok l ∧ t = (s.toDest l .f out).finishWrite l := by
  unfold fileWrite at h
  split at h
  · cases h
  · rename_i l hl
    exact ⟨l, hl, (Host.Outcome.next.inj h).symm⟩

theorem skipIfZero_of_ok {s : State} {f : FileField} {l : FileLoc} (d : Dest) (compute : Byte → Byte)
    (iw : InstrWord) (h : s.ea f = .ok l) (hl : ¬(d = .f ∧ l = .pcl)) :
    skipIfZero f d compute iw s =
      .next ((s.toDest l d (withoutFlags (compute (s.readLoc l)))).skipIf (isZero (compute (s.readLoc l)))) := by
  simp [skipIfZero, h, hl]

theorem skipIfZero_of_pcl {s : State} {f : FileField} (compute : Byte → Byte) (iw : InstrWord)
    (h : s.ea f = .ok .pcl) : skipIfZero f .f compute iw s = .fault (.unspecifiedCombination s.pc iw) := by
  simp [skipIfZero, h]

theorem skipIfZero_of_error {s : State} {f : FileField} {r : Fault} (d : Dest) (compute : Byte → Byte)
    (iw : InstrWord) (h : s.ea f = .error r) : skipIfZero f d compute iw s = .fault r := by
  simp [skipIfZero, h]

/-- Everything DECFSZ and INCFSZ can do, if they answer a state. -/
theorem skipIfZero_cases {s t : State} {f : FileField} {d : Dest} {compute : Byte → Byte} {iw : InstrWord}
    (h : skipIfZero f d compute iw s = .next t) :
    ∃ l, s.ea f = .ok l ∧ ¬(d = .f ∧ l = .pcl) ∧
      t = (s.toDest l d (withoutFlags (compute (s.readLoc l)))).skipIf (isZero (compute (s.readLoc l))) := by
  unfold skipIfZero at h
  split at h
  · cases h
  · rename_i l hl
    split at h
    · cases h
    · rename_i hd
      exact ⟨l, hl, hd, (Host.Outcome.next.inj h).symm⟩

theorem bitTest_of_ok {s : State} {f : FileField} {l : FileLoc} (test : Byte → Bool) (h : s.ea f = .ok l) :
    bitTest f test s = .next (s.skipIf (test (s.readLoc l))) := by
  simp [bitTest, h]

theorem bitTest_of_error {s : State} {f : FileField} {r : Fault} (test : Byte → Bool) (h : s.ea f = .error r) :
    bitTest f test s = .fault r := by
  simp [bitTest, h]

/-- Everything BTFSC and BTFSS can do, if they answer a state. -/
theorem bitTest_cases {s t : State} {f : FileField} {test : Byte → Bool} (h : bitTest f test s = .next t) :
    ∃ l, s.ea f = .ok l ∧ t = s.skipIf (test (s.readLoc l)) := by
  unfold bitTest at h
  split at h
  · cases h
  · rename_i l hl
    exact ⟨l, hl, (Host.Outcome.next.inj h).symm⟩

/-- Everything RETURN and RETLW can do, if they answer a state. -/
theorem returnWith_cases {s v : State} {andThen : State → State} (h : returnWith andThen s = .next v) :
    ∃ t u, s.pop = .ok (t, u) ∧ v = (andThen u).jump t := by
  unfold returnWith at h
  split at h
  · cases h
  · rename_i t u hu
    exact ⟨t, u, hu, (Host.Outcome.next.inj h).symm⟩

/-- Everything CALL can do, if it answers a state. -/
theorem execCall_cases {s v : State} {k : BitVec 11} (h : execCall k s = .next v) :
    ∃ t, s.push (s.pc + 1#13) = .ok t ∧ v = t.jump (s.pageTarget k) := by
  unfold execCall at h
  split at h
  · cases h
  · rename_i t ht
    exact ⟨t, ht, (Host.Outcome.next.inj h).symm⟩

/-- Everything RETFIE can do, if it answers a state. -/
theorem execRetfie_cases {s v : State} (h : execRetfie s = .next v) : s.returnFromInterrupt = .ok v := by
  unfold execRetfie at h
  split at h
  · cases h
  · rename_i t ht
    rw [ht, Host.Outcome.next.inj h]

/-- Everything TRIS can do, if it answers a state. -/
theorem execTris_cases {s v : State} {f : BitVec 3} (h : execTris f s = .next v) :
    ∃ p, trisPort f = some p ∧ v = (s.writeTris p s.w).advance := by
  unfold execTris at h
  split at h
  · rename_i p hp
    exact ⟨p, hp, (Host.Outcome.next.inj h).symm⟩
  · cases h

end Sys2Proof.Machine
end

