-- ==== Sys2Proof/Laws/PerInstr.lean ====
section
/-! SUPPORT. Per-instruction families: one lemma per constructor of Instr. -/

namespace Sys2Proof.Laws

/-! ### EncodePattern: the encoder's word is of the instruction's own row of the tables of 30_encoding.md R76 to R80 -/

/-- The bits of the canonical word under the row's mask are the row's match. -/
def EncodePattern.Statement (i : Instr) : Prop := encode i &&& i.maskMatch.1 = i.maskMatch.2

/-- Format B: the mask covers the opcode, whatever `d` and `f` are. -/
theorem encodeB_pattern (opcode : BitVec 6) (d : Dest) (f : FileField) :
    encodeB opcode d f &&& 0x3F00#14 = (opcode ++ 0#8).cast rfl := by
  apply BitVec.eq_of_getLsbD_eq
  intro i hi
  simp only [encodeB, BitVec.getLsbD_and, BitVec.getLsbD_cast, BitVec.getLsbD_append]
  interval_cases i <;> simp

/-- Format B with bit 7 in the opcode. -/
theorem encodeB_pattern_bit7 (opcode : BitVec 6) (d : Dest) (f : FileField) :
    encodeB opcode d f &&& 0x3F80#14 = (opcode ++ d.bit ++ 0#7).cast rfl := by
  apply BitVec.eq_of_getLsbD_eq
  intro i hi
  simp only [encodeB, BitVec.getLsbD_and, BitVec.getLsbD_cast, BitVec.getLsbD_append]
  interval_cases i <;> simp

/-- Format T: the mask covers the opcode, whatever `b` and `f` are. -/
theorem encodeT_pattern (opcode : BitVec 4) (b : BitVec 3) (f : FileField) :
    encodeT opcode b f &&& 0x3C00#14 = (opcode ++ 0#10).cast rfl := by
  apply BitVec.eq_of_getLsbD_eq
  intro i hi
  simp only [encodeT, BitVec.getLsbD_and, BitVec.getLsbD_cast, BitVec.getLsbD_append]
  interval_cases i <;> simp

/-- Format L: a mask over the opcode bits `m` keeps those, whatever `k` is. -/
theorem encodeL_pattern (opcode m : BitVec 6) (k : Byte) :
    encodeL opcode k &&& ((m ++ 0#8).cast rfl : InstrWord) = ((opcode &&& m) ++ 0#8).cast rfl := by
  apply BitVec.eq_of_getLsbD_eq
  intro i hi
  simp only [encodeL, BitVec.getLsbD_and, BitVec.getLsbD_cast, BitVec.getLsbD_append]
  interval_cases i <;> simp

/-- Format J: the mask covers the opcode, whatever `k` is. -/
theorem encodeJ_pattern (opcode : BitVec 3) (k : BitVec 11) :
    encodeJ opcode k &&& 0x3800#14 = (opcode ++ 0#11).cast rfl := by
  apply BitVec.eq_of_getLsbD_eq
  intro i hi
  simp only [encodeJ, BitVec.getLsbD_and, BitVec.getLsbD_cast, BitVec.getLsbD_append]
  interval_cases i <;> simp

theorem EncodePattern.addwf (f : FileField) (d : Dest) : EncodePattern.Statement (.addwf f d) := encodeB_pattern _ d f

theorem EncodePattern.andwf (f : FileField) (d : Dest) : EncodePattern.Statement (.andwf f d) := encodeB_pattern _ d f

theorem EncodePattern.clrf (f : FileField) : EncodePattern.Statement (.clrf f) := encodeB_pattern_bit7 _ .f f

theorem EncodePattern.clrw : EncodePattern.Statement (.clrw) := by
  unfold EncodePattern.Statement; decide

theorem EncodePattern.comf (f : FileField) (d : Dest) : EncodePattern.Statement (.comf f d) := encodeB_pattern _ d f

theorem EncodePattern.decf (f : FileField) (d : Dest) : EncodePattern.Statement (.decf f d) := encodeB_pattern _ d f

theorem EncodePattern.decfsz (f : FileField) (d : Dest) : EncodePattern.Statement (.decfsz f d) := encodeB_pattern _ d f

theorem EncodePattern.incf (f : FileField) (d : Dest) : EncodePattern.Statement (.incf f d) := encodeB_pattern _ d f

theorem EncodePattern.incfsz (f : FileField) (d : Dest) : EncodePattern.Statement (.incfsz f d) := encodeB_pattern _ d f

theorem EncodePattern.iorwf (f : FileField) (d : Dest) : EncodePattern.Statement (.iorwf f d) := encodeB_pattern _ d f

theorem EncodePattern.movf (f : FileField) (d : Dest) : EncodePattern.Statement (.movf f d) := encodeB_pattern _ d f

theorem EncodePattern.movwf (f : FileField) : EncodePattern.Statement (.movwf f) := encodeB_pattern_bit7 _ .f f

theorem EncodePattern.nop : EncodePattern.Statement (.nop) := by
  unfold EncodePattern.Statement; decide

theorem EncodePattern.rlf (f : FileField) (d : Dest) : EncodePattern.Statement (.rlf f d) := encodeB_pattern _ d f

theorem EncodePattern.rrf (f : FileField) (d : Dest) : EncodePattern.Statement (.rrf f d) := encodeB_pattern _ d f

theorem EncodePattern.subwf (f : FileField) (d : Dest) : EncodePattern.Statement (.subwf f d) := encodeB_pattern _ d f

theorem EncodePattern.swapf (f : FileField) (d : Dest) : EncodePattern.Statement (.swapf f d) := encodeB_pattern _ d f

theorem EncodePattern.xorwf (f : FileField) (d : Dest) : EncodePattern.Statement (.xorwf f d) := encodeB_pattern _ d f

theorem EncodePattern.bcf (f : FileField) (b : BitVec 3) : EncodePattern.Statement (.bcf f b) := encodeT_pattern _ b f

theorem EncodePattern.bsf (f : FileField) (b : BitVec 3) : EncodePattern.Statement (.bsf f b) := encodeT_pattern _ b f

theorem EncodePattern.btfsc (f : FileField) (b : BitVec 3) : EncodePattern.Statement (.btfsc f b) := encodeT_pattern _ b f

theorem EncodePattern.btfss (f : FileField) (b : BitVec 3) : EncodePattern.Statement (.btfss f b) := encodeT_pattern _ b f

theorem EncodePattern.addlw (k : Byte) : EncodePattern.Statement (.addlw k) := encodeL_pattern _ 0x3e#6 k

theorem EncodePattern.andlw (k : Byte) : EncodePattern.Statement (.andlw k) := encodeL_pattern _ 0x3f#6 k

theorem EncodePattern.call (k : BitVec 11) : EncodePattern.Statement (.call k) := encodeJ_pattern _ k

theorem EncodePattern.clrwdt : EncodePattern.Statement (.clrwdt) := by
  unfold EncodePattern.Statement; decide

theorem EncodePattern.goto (k : BitVec 11) : EncodePattern.Statement (.goto k) := encodeJ_pattern _ k

theorem EncodePattern.iorlw (k : Byte) : EncodePattern.Statement (.iorlw k) := encodeL_pattern _ 0x3f#6 k

theorem EncodePattern.movlw (k : Byte) : EncodePattern.Statement (.movlw k) := encodeL_pattern _ 0x3c#6 k

theorem EncodePattern.retfie : EncodePattern.Statement (.retfie) := by
  unfold EncodePattern.Statement; decide

theorem EncodePattern.retlw (k : Byte) : EncodePattern.Statement (.retlw k) := encodeL_pattern _ 0x3c#6 k

theorem EncodePattern.ret : EncodePattern.Statement (.ret) := by
  unfold EncodePattern.Statement; decide

theorem EncodePattern.sleep : EncodePattern.Statement (.sleep) := by
  unfold EncodePattern.Statement; decide

theorem EncodePattern.sublw (k : Byte) : EncodePattern.Statement (.sublw k) := encodeL_pattern _ 0x3e#6 k

theorem EncodePattern.xorlw (k : Byte) : EncodePattern.Statement (.xorlw k) := encodeL_pattern _ 0x3f#6 k

theorem EncodePattern.option : EncodePattern.Statement (.option) := by
  unfold EncodePattern.Statement; decide

theorem EncodePattern.tris (f : BitVec 3) : EncodePattern.Statement (.tris f) := by
  revert f; unfold EncodePattern.Statement; decide

end Sys2Proof.Laws
end

