-- ==== Sys2Proof/Laws/Step.lean ====
section
/-! SUPPORT. What a boundary, a fetch and a step can do, said once; and that a loaded word runs. -/

namespace Sys2Proof.Machine

/-- Everything a boundary can decide to execute: the arrived state, or it woken. -/
theorem State.choose_execute {s t : State} (h : s.choose = .execute t) :
    (s.asleep = false ∧ t = s) ∨ (s.asleep = true ∧ t = { s with asleep := false }) ∨
      (s.asleep = true ∧ t = { s with timeOut := false, asleep := false }) := by
  unfold State.choose at h
  split at h
  · cases h
  split at h
  · unfold State.onWdtTimeout at h
    split at h
    · rename_i ha
      exact .inr (.inr ⟨ha, (Action.execute.inj h).symm⟩)
    · cases h
  split at h
  · rename_i ha
    unfold State.whileAsleep at h
    split at h
    · exact .inr (.inl ⟨ha, (Action.execute.inj h).symm⟩)
    · cases h
  · rename_i ha
    split at h
    · unfold State.interruptStep at h
      split at h <;> cases h
    · exact .inl ⟨by simpa using ha, (Action.execute.inj h).symm⟩

/-- Everything a boundary can settle on: a reset, an interrupt entry, or a core that stays asleep. -/
theorem State.choose_settle {s t : State} (h : s.choose = .settle t) :
    t = s.externalReset ∨ t = s.resetBy .wdt ∨ (s.asleep = true ∧ t = s) ∨
      (s.gie = true ∧ s.intRequest = true ∧ s.takeInterrupt = .ok t) := by
  unfold State.choose at h
  split at h
  · exact .inl (Action.settle.inj h).symm
  split at h
  · unfold State.onWdtTimeout at h
    split at h
    · cases h
    · exact .inr (.inl (Action.settle.inj h).symm)
  split at h
  · rename_i ha
    unfold State.whileAsleep at h
    split at h
    · cases h
    · exact .inr (.inr (.inl ⟨ha, (Action.settle.inj h).symm⟩))
  · split at h
    · rename_i hdue
      unfold State.interruptStep at h
      split at h
      · rename_i u hu
        obtain ⟨hg, hr⟩ := Bool.and_eq_true_iff.mp hdue
        exact .inr (.inr (.inr ⟨hg, hr, by rw [hu, Action.settle.inj h]⟩))
      · cases h
    · cases h

/-- An awake core with no event at the boundary executes. -/
theorem State.choose_of_quiet {s : State} (hr : s.env.externalReset = false) (hw : s.wdtTimesOut = false)
    (ha : s.asleep = false) (hi : s.interruptDue = false) : s.choose = .execute s := by
  simp [State.choose, hr, hw, ha, hi]

/-- Everything a step can do, if it answers a state. -/
theorem step_cases {s t : State} (h : step s = .next t) :
    s.boundary = .settle t ∨ ∃ u i, s.boundary = .execute u ∧ u.fetchInstr = .ok i ∧ exec i u = .next t := by
  unfold step State.runAtPc at h
  split at h
  · rename_i u hu
    split at h
    · cases h
    · rename_i i hi
      exact .inr ⟨u, i, hu, hi, h⟩
  · rename_i u hu
    rw [hu, Host.Outcome.next.inj h]
    exact .inl rfl
  · cases h

/-- A step whose boundary executes and whose fetch answers an instruction is that instruction's meaning. -/
theorem step_of_execute {s u : State} {i : Instr} (hb : s.boundary = .execute u) (hi : u.fetchInstr = .ok i) :
    step s = exec i u := by
  simp [step, hb, State.runAtPc, hi]

/-- A fetch of a listed word. -/
theorem State.fetch_of_read {s : State} {a : Nat} {iw : InstrWord} (ha : s.fetchAddress = .ok a)
    (hr : Memory.read s.prog a = some iw) : s.fetch = .ok iw := by
  simp [State.fetch, ha, hr]

/-- The fetch of a word that decodes. -/
theorem State.fetchInstr_of_decode {s : State} {iw : InstrWord} {i : Instr} (hf : s.fetch = .ok iw)
    (hd : decode iw = .ok i) : s.fetchInstr = .ok i := by
  simp [State.fetchInstr, hf, hd]

/-- The first of the inputs to come, once quiet, raises no event. -/
theorem headD_quietNext (inputs : List Input) :
    ((quietNext inputs).headD {}).externalReset = false ∧ ((quietNext inputs).headD {}).wdtTimeout = false ∧
      ((quietNext inputs).headD {}).intRequest = false ∧ ((quietNext inputs).headD {}).intFlags = 0#7 := by
  cases inputs <;> exact ⟨rfl, rfl, rfl, rfl⟩

/-- INTCON's own sources depend on INTCON and the parameters only. -/
theorem State.intconRequest_congr {s t : State} (hc : t.cfg = s.cfg) (hi : t.intcon = s.intcon) :
    t.intconRequest = s.intconRequest := by
  simp only [State.intconRequest, State.sourceRequest, hc, hi]

/-- The boundary of a state with a loaded word executes. -/
theorem State.withFetchWord_boundary (s : State) (nbits w a : Nat) (ha : s.fetchAddress = .ok a) :
    (s.withFetchWord nbits w).boundary = .execute (s.withFetchWord nbits w).arrive := by
  obtain ⟨hreset, hwdt, hint, hflags⟩ := headD_quietNext s.inputs
  have hsrc : (s.withFetchWord nbits w).arrive.intconRequest = s.intconRequest := by
    refine State.intconRequest_congr ?_ ?_
    · simp [State.withFetchWord, ha]
    · simp only [State.withFetchWord, ha, State.arrive_intcon, hflags, BitVec.zero_and, BitVec.or_zero]
  refine State.choose_of_quiet ?_ ?_ ?_ ?_
  · simp only [State.withFetchWord, ha, State.arrive_env, hreset]
  · simp only [State.withFetchWord, ha, State.wdtTimesOut, State.arrive_env, hwdt, Bool.and_false]
  · simp [State.withFetchWord, ha]
  · rw [State.interruptDue, State.intRequest, hsrc]
    simp only [State.withFetchWord, ha, State.arrive_gie, State.arrive_env, hint]
    cases s.gie <;> cases s.intconRequest <;> rfl

/-- The word that `withFetchWord` loads is the one the very next step executes. -/
theorem State.step_withFetchWord (s : State) (nbits w a : Nat) (i : Instr) (ha : s.fetchAddress = .ok a)
    (hd : decode (BitVec.ofNat 14 (w % 2 ^ nbits)) = .ok i) :
    step (s.withFetchWord nbits w) = exec i (s.withFetchWord nbits w).arrive := by
  refine step_of_execute (s.withFetchWord_boundary nbits w a ha) ?_
  refine State.fetchInstr_of_decode (State.fetch_of_read (a := a) ?_ ?_) hd
  · simp only [State.withFetchWord, ha]
    exact ha
  · simp [State.withFetchWord, ha]

end Sys2Proof.Machine
end

