-- ==== Sys2Proof/Machine/Assembly.lean ====
section
/-! DEFINITION. Source lines of the assembler with their operands evaluated (30_encoding.md R85 to R87): which
instruction a line stands for. The machine does not depend on this file. -/

namespace Sys2Proof.Machine

/-- An operand of a source line, evaluated: a number, or the program address of a label (R87). -/
inductive Operand where
  | number (n : Nat)
  | label (a : ProgAddr)
  deriving DecidableEq, Repr

/-- The operand forms of the "Syntax" lines (R85). -/
inductive OperandForm where
  | none (i : Instr)
  | fd (make : FileField → Dest → Instr)
  | f (make : FileField → Instr)
  | fb (make : FileField → BitVec 3 → Instr)
  | k8 (make : Byte → Instr)
  | k11 (make : BitVec 11 → Instr)
  | tris

/-- The form each mnemonic takes (R85). There are no pseudo-instructions (R88). -/
def operandForm (mnemonic : String) : Option OperandForm :=
  match mnemonic with
  | "ADDWF" => some (.fd .addwf)
  | "ANDWF" => some (.fd .andwf)
  | "CLRF" => some (.f .clrf)
  | "CLRW" => some (.none .clrw)
  | "COMF" => some (.fd .comf)
  | "DECF" => some (.fd .decf)
  | "DECFSZ" => some (.fd .decfsz)
  | "INCF" => some (.fd .incf)
  | "INCFSZ" => some (.fd .incfsz)
  | "IORWF" => some (.fd .iorwf)
  | "MOVF" => some (.fd .movf)
  | "MOVWF" => some (.f .movwf)
  | "NOP" => some (.none .nop)
  | "RLF" => some (.fd .rlf)
  | "RRF" => some (.fd .rrf)
  | "SUBWF" => some (.fd .subwf)
  | "SWAPF" => some (.fd .swapf)
  | "XORWF" => some (.fd .xorwf)
  | "BCF" => some (.fb .bcf)
  | "BSF" => some (.fb .bsf)
  | "BTFSC" => some (.fb .btfsc)
  | "BTFSS" => some (.fb .btfss)
  | "ADDLW" => some (.k8 .addlw)
  | "ANDLW" => some (.k8 .andlw)
  | "CALL" => some (.k11 .call)
  | "CLRWDT" => some (.none .clrwdt)
  | "GOTO" => some (.k11 .goto)
  | "IORLW" => some (.k8 .iorlw)
  | "MOVLW" => some (.k8 .movlw)
  | "RETFIE" => some (.none .retfie)
  | "RETLW" => some (.k8 .retlw)
  | "RETURN" => some (.none .ret)
  | "SLEEP" => some (.none .sleep)
  | "SUBLW" => some (.k8 .sublw)
  | "XORLW" => some (.k8 .xorlw)
  | "OPTION" => some (.none .option)
  | "TRIS" => some .tris
  | _ => Option.none

/-- A number within a field of `bits` bits; one outside it is refused (R87, 93_implementation_defined.md U14). -/
def fieldOperand (bits n : Nat) : Option (BitVec bits) :=
  if n < 2 ^ bits then some (BitVec.ofNat bits n) else none

/-- The destination operand, written 0 or 1 (R86). -/
def destOperand (n : Nat) : Option Dest :=
  match n with
  | 0 => some .w
  | 1 => some .f
  | _ => none

/-- The instruction of a form with its operands. A missing destination is 1 (R86); a label gives CALL and GOTO its low
eleven bits (R87); TRIS takes 5, 6, 7. DESIGN CHOICE: a label as an 8-bit literal is refused, whatever its address, since
R87 says what a label gives for CALL and GOTO only (log 33). -/
def assembleForm (form : OperandForm) (operands : List Operand) : Option Instr :=
  match form, operands with
  | .none i, [] => some i
  | .fd make, [.number f] => (fieldOperand 7 f).map fun f => make f .f
  | .fd make, [.number f, .number d] => (fieldOperand 7 f).bind fun f => (destOperand d).map (make f)
  | .f make, [.number f] => (fieldOperand 7 f).map make
  | .fb make, [.number f, .number b] => (fieldOperand 7 f).bind fun f => (fieldOperand 3 b).map (make f)
  | .k8 make, [.number k] => (fieldOperand 8 k).map make
  | .k11 make, [.number k] => (fieldOperand 11 k).map make
  | .k11 make, [.label a] => some (make (a.setWidth 11))
  | .tris, [.number f] => if 5 ≤ f then (fieldOperand 3 f).map .tris else none
  | _, _ => none

/-- The instruction a source line stands for, if it is one (R85). -/
def assembleLine (mnemonic : String) (operands : List Operand) : Option Instr :=
  match operandForm mnemonic with
  | some form => assembleForm form operands
  | none => none

end Sys2Proof.Machine
end

