-- ==== Sys2Proof/Tests/Slice0.lean ====
section
/-! SUPPORT. Tests of one step each, with expected values from spec/95_test_vectors.md and the encodings of
30_encoding.md, and the witnesses of the statements' hypotheses. -/

namespace Sys2Proof.Tests

open Sys2Proof.Machine

/-! ### Well-formedness -/

theorem test_wf_refuses_tris_below_5 : (Instr.tris 4#3).wf = false := by decide

theorem test_wf_refuses_tris_0 : (Instr.tris 0#3).wf = false := by decide

theorem test_wf_admits_tris_5_and_7 : (Instr.tris 5#3).wf = true ∧ (Instr.tris 7#3).wf = true := by decide

/-! ### Decoding: a word for every constructor, its bits written out from the encodings of the instruction rules -/

theorem test_decode_addwf : decode 0b00_0111_0000_0100#14 = .ok (.addwf 0x04#7 .w) := by decide
theorem test_decode_andwf : decode 0b00_0101_1010_0000#14 = .ok (.andwf 0x20#7 .f) := by decide
theorem test_decode_clrf : decode 0b00_0001_1010_0101#14 = .ok (.clrf 0x25#7) := by decide
theorem test_decode_clrw : decode 0b00_0001_0000_0000#14 = .ok .clrw := by decide
theorem test_decode_comf : decode 0b00_1001_1010_0000#14 = .ok (.comf 0x20#7 .f) := by decide
theorem test_decode_decf : decode 0b00_0011_0010_0000#14 = .ok (.decf 0x20#7 .w) := by decide
theorem test_decode_decfsz : decode 0b00_1011_1010_0000#14 = .ok (.decfsz 0x20#7 .f) := by decide
theorem test_decode_incf : decode 0b00_1010_1010_0000#14 = .ok (.incf 0x20#7 .f) := by decide
theorem test_decode_incfsz : decode 0b00_1111_1010_0000#14 = .ok (.incfsz 0x20#7 .f) := by decide
theorem test_decode_iorwf : decode 0b00_0100_0010_0000#14 = .ok (.iorwf 0x20#7 .w) := by decide
theorem test_decode_movf : decode 0b00_1000_1010_0000#14 = .ok (.movf 0x20#7 .f) := by decide
theorem test_decode_movwf : decode 0b00_0000_1111_1111#14 = .ok (.movwf 0x7F#7) := by decide
theorem test_decode_nop : decode 0b00_0000_0110_0000#14 = .ok .nop := by decide
theorem test_decode_rlf : decode 0b00_1101_1010_0000#14 = .ok (.rlf 0x20#7 .f) := by decide
theorem test_decode_rrf : decode 0b00_1100_0010_0000#14 = .ok (.rrf 0x20#7 .w) := by decide
theorem test_decode_subwf : decode 0b00_0010_1010_0000#14 = .ok (.subwf 0x20#7 .f) := by decide
theorem test_decode_swapf : decode 0b00_1110_1010_0000#14 = .ok (.swapf 0x20#7 .f) := by decide
theorem test_decode_xorwf : decode 0b00_0110_1010_0000#14 = .ok (.xorwf 0x20#7 .f) := by decide
theorem test_decode_bcf : decode 0b01_0011_1010_0000#14 = .ok (.bcf 0x20#7 7#3) := by decide
theorem test_decode_bsf : decode 0b01_0100_1010_0000#14 = .ok (.bsf 0x20#7 1#3) := by decide
theorem test_decode_btfsc : decode 0b01_1011_0000_0011#14 = .ok (.btfsc 0x03#7 6#3) := by decide
theorem test_decode_btfss : decode 0b01_1100_0111_1111#14 = .ok (.btfss 0x7F#7 0#3) := by decide
theorem test_decode_addlw : decode 0b11_1110_0001_0101#14 = .ok (.addlw 0x15#8) := by decide
theorem test_decode_andlw : decode 0b11_1001_0101_1111#14 = .ok (.andlw 0x5F#8) := by decide
theorem test_decode_call : decode 0b10_0001_0010_0011#14 = .ok (.call 0x123#11) := by decide
theorem test_decode_clrwdt : decode 0b00_0000_0110_0100#14 = .ok .clrwdt := by decide
theorem test_decode_goto : decode 0b10_1111_1111_1111#14 = .ok (.goto 0x7FF#11) := by decide
theorem test_decode_iorlw : decode 0b11_1000_0011_0101#14 = .ok (.iorlw 0x35#8) := by decide
theorem test_decode_movlw : decode 0b11_0011_0101_1010#14 = .ok (.movlw 0x5A#8) := by decide
theorem test_decode_retfie : decode 0b00_0000_0000_1001#14 = .ok .retfie := by decide
theorem test_decode_retlw : decode 0b11_0110_0000_0111#14 = .ok (.retlw 0x07#8) := by decide
theorem test_decode_return : decode 0b00_0000_0000_1000#14 = .ok .ret := by decide
theorem test_decode_sleep : decode 0b00_0000_0110_0011#14 = .ok .sleep := by decide
theorem test_decode_sublw : decode 0b11_1101_0000_0010#14 = .ok (.sublw 0x02#8) := by decide
theorem test_decode_xorlw : decode 0b11_1010_1010_1111#14 = .ok (.xorlw 0xAF#8) := by decide
theorem test_decode_option : decode 0b00_0000_0110_0010#14 = .ok .option := by decide
theorem test_decode_tris : decode 0b00_0000_0110_0110#14 = .ok (.tris 6#3) := by decide

theorem test_decode_refuses_0061 : decode 0x0061#14 = .error (.unassigned 0x0061#14) := by decide
theorem test_decode_refuses_3B00 : decode 0x3B00#14 = .error (.unassigned 0x3B00#14) := by decide

/-! ### Source lines (30_encoding.md R86, R87, R89) -/

/-- The words of R89, from the source lines the rule gives for them. -/
theorem test_assemble_words_of_the_spec :
    (assembleLine "ADDLW" [.number 0x15]).map encode = some 0x3E15#14 ∧
      (assembleLine "ADDWF" [.number 0x04, .number 0]).map encode = some 0x0704#14 ∧
      (assembleLine "BCF" [.number 0x20, .number 7]).map encode = some 0x13A0#14 ∧
      (assembleLine "CALL" [.label 0x0923#13]).map encode = some 0x2123#14 ∧
      (assembleLine "TRIS" [.number 6]).map encode = some 0x0066#14 := by decide

/-- The destination is 1 where it is left out, and an operand out of its range is refused. -/
theorem test_assemble_default_and_ranges :
    assembleLine "ADDWF" [.number 0x02] = some (.addwf 0x02#7 .f) ∧ assembleLine "CLRF" [.number 0x80] = none ∧
      assembleLine "TRIS" [.number 4] = none ∧ assembleLine "TRIS" [.number 8] = none := by decide

/-! ### One step of each instruction -/

/-- The state an execution answers, if it answers one. -/
def resultOf (r : Result) : Option State :=
  match r with
  | .next t => some t
  | .fault _ => none
  | .refused _ => none

/-- A state with `W = w` and the register at 0x20 holding `v`. -/
def withFile (w v : Byte) : State := { State.reset with w := w, data := [(0x20, v)] }

/-- W, the register at 0x20, C, DC and Z after an instruction. -/
def seen (i : Instr) (s : State) : Option (Byte × Byte × Bool × Bool × Bool) :=
  (resultOf (exec i s)).map fun t => (t.w, t.plainByte 0x20, t.c, t.dc, t.z)

/-- W, C, DC and Z after an instruction. -/
def seenW (i : Instr) (s : State) : Option (Byte × Bool × Bool × Bool) :=
  (resultOf (exec i s)).map fun t => (t.w, t.c, t.dc, t.z)

/-- The program counter and the cycle count after an instruction. -/
def seenPc (i : Instr) (s : State) : Option (ProgAddr × Nat) :=
  (resultOf (exec i s)).map fun t => (t.pc, t.cycles)

/-- 95_test_vectors.md section 1, with the sum to W. -/
theorem test_addwf_to_w :
    seen (.addwf 0x20#7 .w) (withFile 0x17#8 0xC2#8) = some (0xD9#8, 0xC2#8, false, false, false) := by decide

/-- Section 2.1: 0xFF + 0x01 into the register. -/
theorem test_addwf_to_f_wraps :
    seen (.addwf 0x20#7 .f) (withFile 0xFF#8 0x01#8) = some (0xFF#8, 0x00#8, true, true, true) := by decide

theorem test_andwf :
    seen (.andwf 0x20#7 .f) (withFile 0x17#8 0xC2#8) = some (0x17#8, 0x02#8, false, false, false) := by decide

/-- Section 1, CLRF. -/
theorem test_clrf : seen (.clrf 0x20#7) (withFile 0x11#8 0x5A#8) = some (0x11#8, 0x00#8, false, false, true) := by
  decide

/-- Section 1, CLRW. -/
theorem test_clrw : seenW .clrw (withFile 0x5A#8 0x00#8) = some (0x00#8, false, false, true) := by decide

/-- Section 1, COMF with the correction of C7. -/
theorem test_comf :
    seen (.comf 0x20#7 .w) (withFile 0x00#8 0x13#8) = some (0xEC#8, 0x13#8, false, false, false) := by decide

/-- Section 2.5: 0x01 - 1. -/
theorem test_decf_to_zero :
    seen (.decf 0x20#7 .f) (withFile 0x33#8 0x01#8) = some (0x33#8, 0x00#8, false, false, true) := by decide

/-- Section 2.6: 0x01 skips. -/
theorem test_decfsz_skips : seenPc (.decfsz 0x20#7 .f) (withFile 0x00#8 0x01#8) = some (2#13, 2) := by decide

/-- Section 2.6: 0x00 wraps and does not skip. -/
theorem test_decfsz_wraps : seenPc (.decfsz 0x20#7 .f) (withFile 0x00#8 0x00#8) = some (1#13, 1) := by decide

/-- Section 1, INCF: C unchanged by the wrap. -/
theorem test_incf_wraps :
    seen (.incf 0x20#7 .f) (withFile 0x33#8 0xFF#8) = some (0x33#8, 0x00#8, false, false, true) := by decide

/-- Section 1, INCFSZ. -/
theorem test_incfsz_skips : seenPc (.incfsz 0x20#7 .f) (withFile 0x00#8 0xFF#8) = some (2#13, 2) := by decide

/-- Section 1, IORWF, Z corrected by C5. -/
theorem test_iorwf :
    seen (.iorwf 0x20#7 .w) (withFile 0x91#8 0x13#8) = some (0x93#8, 0x13#8, false, false, false) := by decide

/-- Section 2.5: MOVF of 0x00 sets Z. -/
theorem test_movf_zero :
    seen (.movf 0x20#7 .w) (withFile 0x44#8 0x00#8) = some (0x00#8, 0x00#8, false, false, true) := by decide

/-- Section 1, `MOVWF OPTION_REG`: bank 1, file address 0x01. -/
theorem test_movwf_option :
    (resultOf (exec (.movwf 0x01#7) { withFile 0x4F#8 0x00#8 with rp0 := true })).map State.optionReg =
      some 0x4F#8 := by decide

/-- 10_state.md R20, D2: the program counter wraps at 0x1FFF. -/
theorem test_nop_wraps_pc : seenPc .nop { State.reset with pc := 0x1FFF#13 } = some (0x0000#13, 1) := by decide

/-- Section 1, RLF. -/
theorem test_rlf :
    seen (.rlf 0x20#7 .w) (withFile 0x00#8 0xE6#8) = some (0xCC#8, 0xE6#8, true, false, false) := by decide

/-- Section 2.4: 0xE6 with C = 1. -/
theorem test_rrf :
    seen (.rrf 0x20#7 .w) { withFile 0x00#8 0xE6#8 with c := true } =
      some (0xF3#8, 0xE6#8, false, false, false) := by decide

/-- Section 1, SUBWF example 3: the result is negative. -/
theorem test_subwf_borrow :
    seen (.subwf 0x20#7 .f) (withFile 0x02#8 0x01#8) = some (0x02#8, 0xFF#8, false, false, false) := by decide

/-- Section 2.2: DC alone, 0x7F - 0x80. -/
theorem test_subwf_digit_carry :
    seen (.subwf 0x20#7 .w) (withFile 0x80#8 0x7F#8) = some (0xFF#8, 0x7F#8, false, true, false) := by decide

/-- Section 1, SWAPF. -/
theorem test_swapf :
    seen (.swapf 0x20#7 .w) (withFile 0x00#8 0xA5#8) = some (0x5A#8, 0xA5#8, false, false, false) := by decide

/-- Section 1, XORWF. -/
theorem test_xorwf :
    seen (.xorwf 0x20#7 .f) (withFile 0xB5#8 0xAF#8) = some (0xB5#8, 0x1A#8, false, false, false) := by decide

/-- Section 1, BCF. -/
theorem test_bcf :
    seen (.bcf 0x20#7 7#3) (withFile 0x00#8 0xC7#8) = some (0x00#8, 0x47#8, false, false, false) := by decide

/-- Section 1, BSF. -/
theorem test_bsf :
    seen (.bsf 0x20#7 7#3) (withFile 0x00#8 0x0A#8) = some (0x00#8, 0x8A#8, false, false, false) := by decide

/-- Section 1, BTFSC: bit 1 clear skips. -/
theorem test_btfsc : seenPc (.btfsc 0x20#7 1#3) (withFile 0x00#8 0xFD#8) = some (2#13, 2) := by decide

/-- Section 1, BTFSS with the correction of C3: bit 1 clear does not skip. -/
theorem test_btfss : seenPc (.btfss 0x20#7 1#3) (withFile 0x00#8 0xFD#8) = some (1#13, 1) := by decide

/-- Section 2.1. -/
theorem test_addlw : seenW (.addlw 0x01#8) (withFile 0x0F#8 0x00#8) = some (0x10#8, false, true, false) := by decide

/-- Section 1, ANDLW. -/
theorem test_andlw : seenW (.andlw 0x5F#8) (withFile 0xA3#8 0x00#8) = some (0x03#8, false, false, false) := by decide

/-- 42_literal_control.md R143: the page comes from PCLATH<4:3>. -/
theorem test_call :
    (resultOf (exec (.call 0x123#11) { State.reset with pc := 0x0010#13, pclath := 0b11000#5 })).map
      (fun t => (t.pc, t.stack)) = some (0x1923#13, [0x0011#13]) := by decide

/-- Section 1, CLRWDT. -/
theorem test_clrwdt :
    (resultOf (exec .clrwdt { State.reset with wdt := 9, prescaler := 7, timeOut := false, powerDown := false })).map
      (fun t => (t.wdt, t.prescaler, t.timeOut, t.powerDown)) = some (0, 0, true, true) := by decide

/-- 42_literal_control.md R146. -/
theorem test_goto :
    seenPc (.goto 0x7FF#11) { State.reset with pclath := 0b01111#5 } = some (0x0FFF#13, 2) := by decide

/-- Section 1, IORLW, Z corrected by C5. -/
theorem test_iorlw : seenW (.iorlw 0x35#8) (withFile 0x9A#8 0x00#8) = some (0xBF#8, false, false, false) := by decide

/-- Section 1, MOVLW. -/
theorem test_movlw : seenW (.movlw 0x5A#8) (withFile 0x00#8 0x00#8) = some (0x5A#8, false, false, false) := by decide

/-- Section 1, RETFIE. -/
theorem test_retfie :
    (resultOf (exec .retfie { State.reset with stack := [0x1ABC#13] })).map (fun t => (t.pc, t.gie)) =
      some (0x1ABC#13, true) := by decide

/-- 42_literal_control.md R150. -/
theorem test_retlw :
    (resultOf (exec (.retlw 0x08#8) { State.reset with stack := [0x0123#13, 0x0456#13] })).map
      (fun t => (t.w, t.pc, t.stack)) = some (0x08#8, 0x0123#13, [0x0456#13]) := by decide

/-- Section 1, RETURN. -/
theorem test_return : seenPc .ret { State.reset with stack := [0x1FFF#13] } = some (0x1FFF#13, 2) := by decide

/-- Section 1, SLEEP. -/
theorem test_sleep :
    (resultOf (exec .sleep { State.reset with wdt := 5 })).map
      (fun t => (t.wdt, t.timeOut, t.powerDown, t.asleep)) = some (0, true, false, true) := by decide

/-- Section 1, SUBLW example 3: the result is negative. -/
theorem test_sublw : seenW (.sublw 0x02#8) (withFile 0x03#8 0x00#8) = some (0xFF#8, false, false, false) := by decide

/-- Section 1, XORLW. -/
theorem test_xorlw : seenW (.xorlw 0xAF#8) (withFile 0xB5#8 0x00#8) = some (0x1A#8, false, false, false) := by decide

/-- 43_option_tris.md R160. -/
theorem test_option :
    (resultOf (exec .option { State.reset with w := 0x87#8 })).map (fun t => (t.optionReg, t.w)) =
      some (0x87#8, 0x87#8) := by decide

/-- 43_option_tris.md R161: `TRIS 6` with W = 0x0F. -/
theorem test_tris :
    (resultOf (exec (.tris 6#3) { State.reset with w := 0x0F#8 })).map State.trisRegs =
      some ⟨0xFF#8, 0x0F#8, 0xFF#8⟩ := by decide

/-- The computed jump of 10_state.md R22: `TABLE ADDWF PC` with W = 7 goes to `TABLE + 8`. -/
theorem test_computed_jump :
    seenPc (.addwf 0x02#7 .f) { State.reset with w := 0x07#8, pc := 0x0040#13 } = some (0x0048#13, 2) := by decide

/-- An interrupt request sets its flag bit in INTCON, and the entry leaves it there (60_exceptions.md R176, R178). -/
theorem test_interrupt_entry :
    (resultOf (step { State.reset with gie := true, pc := 0x0100#13,
                                       inputs := [{ intRequest := true, intFlags := 0b0000010#7 }] })).map
      (fun t => (t.pc, t.stack, t.gie, t.intcon)) = some (0x0004#13, [0x0100#13], false, 0b0000010#7) := by decide

/-- The environment sets flag bits of INTCON and no enable bit (20_memory.md R65, 60_exceptions.md R174). -/
theorem test_arrive_sets_flag_bits_only :
    ({ State.reset with intcon := 0b0010000#7, inputs := [{ intFlags := 0b1111010#7 }] } : State).arrive.intcon =
      0b0010010#7 := by decide

/-- A word loaded by the host's function runs at once from reset. -/
theorem test_step_from_reset :
    (resultOf (step (State.reset.withFetchWord 16 0x3E15))).map (fun t => (t.w, t.pc)) =
      some (0x15#8, 0x0001#13) := by decide

/-! ### Witnesses: states and operands that meet the hypotheses of each statement that has some -/

/-- A part without a profile. -/
def bareConfig : Config := { Config.default with profile := .none }

/-- A part whose stack is circular and two deep. -/
def circularConfig : Config := { Config.default with stackPolicy := .circular, stackDepth := 2 }

/-- A part with an enabled watchdog. -/
def watchedConfig : Config := { Config.default with wdtEnabled := true }

/-- Reset with a word at address 0. -/
def loaded (iw : InstrWord) : State := { State.reset with prog := [(0, iw)] }

/-- Seven return addresses: one slot is free. -/
def almostFull : List ProgAddr := [1#13, 2#13, 3#13, 4#13, 5#13, 6#13, 7#13]

/-- A file operand at plain storage, at the program counter's low byte, and at STATUS: the boundary cases of every
statement about an instruction with a file operand. -/
theorem file_operands :
    State.reset.ea 0x20#7 = .ok (.plain 0x20) ∧ State.reset.ea 0x02#7 = .ok .pcl ∧
      State.reset.ea 0x03#7 = .ok .status ∧ State.reset.ea 0x00#7 = .ok .null ∧ State.reset.ea 0x01#7 = .ok .tmr0 ∧
      State.reset.ea 0x05#7 = .ok (.port .a) := by decide

theorem witness_EveryWellFormedInstructionDecodesFromItsWord :
    (Instr.tris 5#3).wf = true ∧ (Instr.tris 7#3).wf = true ∧ Instr.nop.wf = true := by decide

theorem witness_DecodedWordLiesInItsRow : decode 0x3FFF#14 = .ok (.addlw 0xFF#8) := by decide

theorem witness_UndecodedExactlyOnTheUnassignedWords :
    Unassigned 0x0001#14 ∧ Unassigned 0x007F#14 ∧ Unassigned 0x3BFF#14 ∧ ¬Unassigned 0x0000#14 ∧
      ¬Unassigned 0x0008#14 ∧ ¬Unassigned 0x0080#14 ∧ ¬Unassigned 0x3C00#14 := by
  refine ⟨?_, ?_, ?_, ?_, ?_, ?_, ?_⟩ <;> unfold Unassigned <;> decide

theorem witness_DontCareBitsDoNotMatter :
    0x017F#14 &&& 0x3F80#14 = 0x0100#14 ∧ 0x0060#14 &&& 0x3F9F#14 = 0x0000#14 ∧
      0x33FF#14 &&& 0x3C00#14 = 0x3000#14 ∧ 0x37FF#14 &&& 0x3C00#14 = 0x3400#14 ∧
      0x3FFF#14 &&& 0x3E00#14 = 0x3E00#14 ∧ 0x3DFF#14 &&& 0x3E00#14 = 0x3C00#14 := by decide

/-- With GIE clear, and with GIE set and no request; no input is left in either. -/
theorem witness_StepRunsTheDecodedInstruction :
    (loaded 0x3E15#14).asleep = false ∧ NoResetDue (loaded 0x3E15#14) ∧ (loaded 0x3E15#14).gie = false ∧
      ({ loaded 0x3E15#14 with gie := true } : State).arrive.intRequest = false ∧
      (loaded 0x3E15#14).fetchAddress = .ok 0 ∧ Memory.read (loaded 0x3E15#14).prog 0 = some 0x3E15#14 ∧
      decode 0x3E15#14 = .ok (.addlw 0x15#8) ∧ (loaded 0x3E15#14).inputs = [] :=
  ⟨rfl, ⟨rfl, .inl rfl⟩, rfl, rfl, rfl, rfl, rfl, rfl⟩

/-- The last implemented word, the first word beyond it, its repetition, and a word nothing has loaded. -/
theorem witness_FetchSelectsTheProgramWord :
    (State.reset.pc.toNat < 1 ∧ Memory.read (loaded 0x0000#14).prog State.reset.pc.toNat = some 0x0000#14) ∧
      ({ State.reset with cfg := { Config.default with progWords := 1 }, pc := 1#13 } : State).cfg.progWords ≤
        (1#13 : ProgAddr).toNat ∧
      Config.default.fetchPolicy = .fault ∧
      ({ Config.default with fetchPolicy := .wrap, progWords := 1 } : Config).fetchPolicy = .wrap ∧
      Memory.read (loaded 0x0000#14).prog ((1#13 : ProgAddr).toNat % 1) = some 0x0000#14 ∧
      Memory.read State.reset.prog State.reset.pc.toNat = none := by decide

theorem witness_ExecutedUnassignedWordFaults :
    (loaded 0x3B00#14).asleep = false ∧ NoResetDue (loaded 0x3B00#14) ∧ (loaded 0x3B00#14).gie = false ∧
      (loaded 0x3B00#14).fetch = .ok 0x3B00#14 ∧ Unassigned 0x3B00#14 := by
  refine ⟨rfl, ⟨rfl, .inl rfl⟩, rfl, rfl, ?_⟩
  unfold Unassigned
  decide

theorem witness_StepKeepsTheInvariant :
    (loaded 0x00A0#14).inv = true ∧ (resultOf (step (loaded 0x00A0#14))).isSome = true := by decide

/-- The statement about launches has no hypothesis of its own; the profiles its last clause names all exist. -/
theorem witness_LaunchLeavesTheResetValuesOfTheSpec :
    Config.default.profile = .p16 ∧ ({ Config.default with profile := .none } : Config).profile = .none := by decide

theorem witness_LaunchHasTheInvariant :
    Config.default.wf = true ∧ Memory.wf [(0, 0x3E15#14), (1, 0x2800#14)] = true := by decide

theorem witness_StepKeepsProgramAndParameters : (resultOf (step (loaded 0x00A0#14))).isSome = true := by decide

theorem witness_AddwfAddsWAndTheFile : State.reset.ea 0x20#7 = .ok (.plain 0x20) := by decide

theorem witness_SubwfSubtractsWFromTheFile : State.reset.ea 0x02#7 = .ok .pcl := by decide

theorem witness_LogicOfWAndTheFile : State.reset.ea 0x03#7 = .ok .status := by decide

theorem witness_ComfComplementsAndMovfMoves : State.reset.ea 0x0B#7 = .ok .intcon := by decide

theorem witness_DecfAndIncfCountModulo256 : State.reset.ea 0x04#7 = .ok .fsr := by decide

theorem witness_RlfAndRrfRotateThroughCarry : State.reset.ea 0x7F#7 = .ok (.plain 0x7F) := by decide

theorem witness_SwapfExchangesTheNibbles : State.reset.ea 0x03#7 = .ok .status := by decide

/-- The skips with the register as destination, and with W as destination and the program counter as operand. -/
theorem witness_DecfszAndIncfszSkipOnZero :
    (State.reset.ea 0x20#7 = .ok (.plain 0x20) ∧ ¬(Dest.f = .f ∧ FileLoc.plain 0x20 = .pcl)) ∧
      (State.reset.ea 0x02#7 = .ok .pcl ∧ ¬(Dest.w = .f ∧ FileLoc.pcl = .pcl)) := by decide

theorem witness_ClrfAndMovwfWriteTheFile : State.reset.ea 0x0A#7 = .ok .pclath := by decide

theorem witness_BcfAndBsfChangeOneBit : State.reset.ea 0x05#7 = .ok (.port .a) := by decide

theorem witness_BtfscAndBtfssSkipOnTheBit : State.reset.ea 0x03#7 = .ok .status := by decide

theorem witness_CallPushesTheNextAddressAndJumps :
    ({ State.reset with stack := almostFull } : State).stack.length < Config.default.stackDepth := by decide

theorem witness_ReturnsPopTheProgramCounter :
    ({ State.reset with stack := [0x1FFF#13] } : State).stack = 0x1FFF#13 :: [] := rfl

theorem witness_OptionAndTrisLoadTheirRegisters :
    (5#3 : BitVec 3).toNat = Port.a.number ∧ (6#3 : BitVec 3).toNat = Port.b.number ∧
      (7#3 : BitVec 3).toNat = Port.c.number := by decide

theorem witness_UnmappedFileOperandFaults :
    fileOperand (.clrf 0x08#7) = some 0x08#7 ∧ State.reset.ea 0x08#7 = .error (.unmappedFile 0x08) ∧
      exec (.clrf 0x08#7) State.reset = .fault (.unmappedFile 0x08) := ⟨rfl, rfl, rfl⟩

theorem witness_SkipOntoTheProgramCounterFaults :
    State.reset.ea 0x02#7 = .ok .pcl ∧ decode 0x0B82#14 = .ok (.decfsz 0x02#7 .f) ∧
      decode 0x0F82#14 = .ok (.incfsz 0x02#7 .f) := by decide

/-- A stack of eight under `fault`, and an empty one. -/
theorem witness_StackFaultsUnderTheFaultPolicy :
    Config.default.stackPolicy = .fault ∧ Config.default.stackDepth ≤ (8#13 :: almostFull).length ∧
      State.reset.stack = [] := by decide

/-- A full circular stack; an empty one with a slot never written; an empty one whose slots all hold an address. -/
theorem witness_CircularStackNeverFaults :
    circularConfig.stackPolicy = .circular ∧ circularConfig.stackDepth ≤ [1#13, 2#13].length ∧
      (State.launch circularConfig []).stack = [] ∧
      (State.launch circularConfig []).stale.length < circularConfig.stackDepth ∧
      circularConfig.stackDepth ≤
        ({ State.launch circularConfig [] with stale := [3#13, 4#13] } : State).stale.length := by decide

theorem witness_TrisOutsideItsRangeIsRefused : (0#3 : BitVec 3).toNat < 5 ∧ (4#3 : BitVec 3).toNat < 5 := by decide

/-- A state in which an interrupt is due, with one slot free. -/
def interruptible : State :=
  { State.reset with gie := true, stack := almostFull, inputs := [{ intRequest := true }] }

theorem witness_InterruptEntryPushesPcAndClearsGie :
    interruptible.asleep = false ∧ NoResetDue interruptible ∧ interruptible.gie = true ∧
      interruptible.arrive.intRequest = true ∧ interruptible.stack.length < interruptible.cfg.stackDepth :=
  ⟨rfl, ⟨rfl, .inl rfl⟩, rfl, rfl, by decide⟩

theorem witness_NoInterruptWithGieClear :
    ({ interruptible with gie := false } : State).asleep = false ∧
      NoResetDue { interruptible with gie := false } ∧ ({ interruptible with gie := false } : State).gie = false :=
  ⟨rfl, ⟨rfl, .inl rfl⟩, rfl⟩

theorem witness_RetfieInvertsInterruptEntry :
    interruptible.gie = true ∧ interruptible.stack.length < interruptible.cfg.stackDepth := by decide

theorem witness_ReturnComesBackAfterTheCall : State.reset.stack.length < State.reset.cfg.stackDepth := by decide

/-- A watched core at a boundary where the watchdog times out, awake and asleep. -/
def timedOut (asleep : Bool) : State :=
  { State.launch watchedConfig [] with asleep := asleep, inputs := [{ wdtTimeout := true }] }

theorem witness_WatchdogTimeoutResetsOrWakes :
    ((timedOut true).inputs.headD {}).externalReset = false ∧ (timedOut true).cfg.wdtEnabled = true ∧
      ((timedOut true).inputs.headD {}).wdtTimeout = true ∧ (timedOut true).asleep = true ∧
      ((timedOut false).inputs.headD {}).externalReset = false ∧ (timedOut false).cfg.wdtEnabled = true ∧
      ((timedOut false).inputs.headD {}).wdtTimeout = true ∧ (timedOut false).asleep = false := by decide

/-- An external reset at a boundary, awake and asleep. -/
theorem witness_ExternalResetReplacesAnyStep :
    (({ State.reset with inputs := [{ externalReset := true }] } : State).inputs.headD {}).externalReset = true ∧
      ({ State.reset with asleep := true, inputs := [{ externalReset := true }] } : State).asleep = true ∧
      ({ State.reset with inputs := [{ externalReset := true }] } : State).asleep = false := by decide

/-- A sleeping core, with and without a wake-up at the boundary. -/
def sleeping (wake : Bool) : State := { State.reset with asleep := true, inputs := [{ wake := wake }] }

theorem witness_SleepingCoreWaitsForWake :
    (sleeping true).asleep = true ∧ NoResetDue (sleeping true) ∧ (sleeping true).arrive.wakes = true ∧
      (sleeping false).asleep = true ∧ NoResetDue (sleeping false) ∧ (sleeping false).arrive.wakes = false :=
  ⟨rfl, ⟨rfl, .inl rfl⟩, rfl, rfl, ⟨rfl, .inl rfl⟩, rfl⟩

/-- With no input left, and with one that counts and sets a bit of INTCON. -/
theorem witness_QuiescentSleepNeverEnds :
    Quiescent { State.reset with asleep := true } ∧
      Quiescent { State.reset with asleep := true, inputs := [{ wdtTicks := 3, intFlags := 0b0000010#7 }] } := by
  unfold Quiescent NeverWoken NoIntconRequest
  decide

/-- `GOTO 0` at address 0: with no input left; with GIE 0 and a request; with GIE 1 and no request. -/
theorem witness_SelfLoopNeverEnds :
    SelfLoop (loaded 0x2800#14) ∧
      (SelfLoop { loaded 0x2800#14 with inputs := [{ intRequest := true }] } ∧
        NoResetDue { loaded 0x2800#14 with inputs := [{ intRequest := true }] }) ∧
      (SelfLoop { loaded 0x2800#14 with gie := true, inputs := [{ wake := true }] } ∧
        NoResetDue { loaded 0x2800#14 with gie := true, inputs := [{ wake := true }] }) := by
  refine ⟨⟨rfl, .inl rfl, 0#11, rfl, rfl⟩, ⟨⟨rfl, .inl rfl, 0#11, rfl, rfl⟩, rfl, .inl rfl⟩,
    ⟨⟨rfl, .inr ?_, 0#11, rfl, rfl⟩, rfl, .inl rfl⟩⟩
  unfold NeverRequested NoIntconRequest
  decide

theorem nop_writes_no_location (s : State) (l : FileLoc) : ¬WritesLoc .nop s l := by
  rintro ⟨f, hf, -⟩
  cases hf

theorem witness_InstructionFallsThroughUnlessItSetsPc :
    exec .nop State.reset = .next State.reset.advance ∧ isJump .nop = false ∧ isSkip .nop = false ∧
      ¬WritesLoc .nop State.reset .pcl :=
  ⟨rfl, rfl, rfl, nop_writes_no_location _ _⟩

/-- A jump, a skip that is taken, a write to the program counter, and an instruction that is none of these. -/
theorem witness_CyclesFollowTheTwoCycleRule :
    (isJump (.goto 0#11) = true ∧ exec (.goto 0#11) State.reset = .next (State.reset.jump 0#13)) ∧
      (isSkip (.btfsc 0x04#7 0#3) = true ∧
        exec (.btfsc 0x04#7 0#3) State.reset = .next (State.reset.skipIf true) ∧
        (State.reset.skipIf true).pc = State.reset.pc + 2#13) ∧
      (isSkip (.movwf 0x02#7) = false ∧ WritesLoc (.movwf 0x02#7) State.reset .pcl ∧
        (resultOf (exec (.movwf 0x02#7) State.reset)).isSome = true) ∧
      (isJump .nop = false ∧ isSkip .nop = false ∧ exec .nop State.reset = .next State.reset.advance) :=
  ⟨⟨rfl, rfl⟩, ⟨rfl, rfl, rfl⟩, ⟨rfl, ⟨0x02#7, rfl, rfl⟩, by decide⟩, ⟨rfl, rfl, rfl⟩⟩

theorem witness_UnlistedFlagsAreKept :
    exec .nop State.reset = .next State.reset.advance ∧ ¬WritesLoc .nop State.reset .status ∧
      Flag.z ∉ statusAffected .nop :=
  ⟨rfl, nop_writes_no_location _ _, by decide⟩

theorem witness_OnlyClrwdtAndSleepWriteTimeOutAndPowerDown :
    (resultOf (exec .clrwdt State.reset)).isSome = true ∧ (resultOf (exec .sleep State.reset)).isSome = true ∧
      (resultOf (exec .nop State.reset)).isSome = true ∧ Instr.nop ≠ .clrwdt ∧ Instr.nop ≠ .sleep := by decide

theorem witness_OnlyCallAndReturnsTouchTheStack :
    exec .nop State.reset = .next State.reset.advance ∧ isJump .nop = false ∧
      exec (.goto 0#11) State.reset = .next (State.reset.jump 0#13) := ⟨rfl, rfl, rfl⟩

theorem witness_PclathChangesOnlyAsAFileRegister :
    exec .nop State.reset = .next State.reset.advance ∧ ¬WritesLoc .nop State.reset .pclath :=
  ⟨rfl, nop_writes_no_location _ _⟩

theorem witness_ExecReadsNeitherProgramNorTime :
    exec .nop State.reset = .next State.reset.advance ∧
      exec .ret State.reset = .fault (.stackUnderflow 0x0000#13) := ⟨rfl, rfl⟩

/-- A file destination, and none. -/
theorem witness_WritingTmr0ClearsThePrescaler :
    State.reset.ea 0x01#7 = .ok .tmr0 ∧ fileOperand (.movwf 0x01#7) = some 0x01#7 ∧
      fileDest (.movwf 0x01#7) = some 0x01#7 ∧ fileOperand (.movf 0x01#7 .w) = some 0x01#7 ∧
      fileDest (.movf 0x01#7 .w) = none := by decide

/-- A part with two banks. -/
def twoBankConfig : Config := { Config.default with fourBanks := false, portC := false }

/-- A map without banks: STATUS at 0x03 with C in bit 7, plain storage elsewhere from 0x10, some of it mirrored. -/
def unbankedMap : RegisterMap where
  rows := [⟨0x03, 0x03, .status⟩, ⟨0x10, 0x6F, .plain 0x10⟩, ⟨0x70, 0x7F, .plain 0x10⟩]
  indf := none
  direct := []
  indirect := []
  status := ⟨some 7#3, none, some 0#3, none, none, none, none, none⟩
  psa := none
  optionReset := 0x00#8
  trisReset := 0xFF#8

/-- A map with banks, and with INDF at 0x01. -/
def bankedMap : RegisterMap := { unbankedMap with indf := some 0x01#7, direct := [.rp0], indirect := [.irp] }

/-- A state of a part with another map. -/
def mapped (map : RegisterMap) : State := State.launch { Config.default with profile := .table map } []

/-- The mirrored address 0x72 is the storage at 0x12. -/
theorem test_map_mirrors : (mapped unbankedMap).ea 0x72#7 = .ok (.plain 0x12) := by decide

/-- C is read in the bit the map gives it. -/
theorem test_map_status :
    seenW (.movf 0x03#7 .w) { mapped unbankedMap with c := true } = some (0x80#8, true, false, false) := by decide

/-- An indirect access with IRP set reaches bank 3 (10_state.md R42). -/
theorem test_indirect_irp : ({ State.reset with irp := true, fsr := 0xA5#8 } : State).ea 0x00#7 = .ok (.plain 0x1A5) := by
  decide

/-- No profile; P16 with four banks and with two, direct and indirect, IRP 0 and 1; a map with INDF, and one without. -/
theorem witness_FileAddressesDesignateTheirLocations :
    bareConfig.profile = .none ∧ (State.reset.cfg.profile = .p16 ∧ State.reset.cfg.fourBanks = true) ∧
      (0x05#7 : FileField) ≠ 0x00#7 ∧ (twoBankConfig.profile = .p16 ∧ twoBankConfig.fourBanks = false) ∧
      ({ State.reset with irp := true } : State).irp = true ∧ State.reset.irp = false ∧
      (mapped bankedMap).cfg.profile = .table bankedMap ∧ bankedMap.indf = some 0x01#7 ∧
      bankedMap.indf ≠ some 0x20#7 ∧ (mapped unbankedMap).cfg.profile = .table unbankedMap ∧
      unbankedMap.direct = [] ∧ unbankedMap.indf = none := by decide

/-- The addresses at which the clauses of the map of P16 begin and end, each with what it designates. -/
theorem witness_P16Map :
    p16Loc Config.default 0x000 = .ok .null ∧ p16Loc Config.default 0x180 = .ok .null ∧
      p16Loc Config.default 0x001 = .ok .tmr0 ∧ p16Loc Config.default 0x081 = .ok .option ∧
      p16Loc Config.default 0x101 = .error (.unmappedFile 0x101) ∧
      p16Loc Config.default 0x181 = .error (.unmappedFile 0x181) ∧
      p16Loc Config.default 0x005 = .ok (.port .a) ∧ p16Loc Config.default 0x087 = .ok (.tris .c) ∧
      p16Loc Config.default 0x185 = .error (.unmappedFile 0x185) ∧
      p16Loc twoBankConfig 0x087 = .error (.unmappedFile 0x087) ∧
      p16Loc Config.default 0x008 = .error (.unmappedFile 0x008) ∧
      p16Loc Config.default 0x01F = .error (.unmappedFile 0x01F) ∧
      p16Loc Config.default 0x020 = .ok (.plain 0x020) ∧ p16Loc Config.default 0x1CF = .ok (.plain 0x1CF) ∧
      p16Loc Config.default 0x050 = .ok (.plain 0x050) ∧ p16Loc Config.default 0x1FF = .ok (.plain 0x1FF) := by decide

/-- Plain storage, with a value and without; a location of each other kind; STATUS in P16 and in another map. -/
theorem witness_MovfReadsBackWhatMovwfStored :
    State.reset.ea 0x4F#7 = .ok (.plain 0x4F) ∧
      ((withFile 0x00#8 0x5A#8).ea 0x20#7 = .ok (.plain 0x20) ∧
        Memory.read (withFile 0x00#8 0x5A#8).data 0x20 = some 0x5A#8) ∧
      State.reset.ea 0x00#7 = .ok .null ∧ State.reset.ea 0x04#7 = .ok .fsr ∧ State.reset.ea 0x0A#7 = .ok .pclath ∧
      State.reset.ea 0x02#7 = .ok .pcl ∧ ({ State.reset with rp0 := true } : State).ea 0x01#7 = .ok .option ∧
      ({ State.reset with rp0 := true } : State).ea 0x06#7 = .ok (.tris .b) ∧
      (({ State.reset with env := { timer0 := some 0x11#8 } } : State).ea 0x01#7 = .ok .tmr0 ∧
        ({ State.reset with env := { timer0 := some 0x11#8 } } : State).env.timer0 = some 0x11#8) ∧
      (({ State.reset with env := { pinsA := some 0x3C#8 } } : State).ea 0x05#7 = .ok (.port .a) ∧
        ({ State.reset with env := { pinsA := some 0x3C#8 } } : State).env.pins .a = some 0x3C#8) ∧
      State.reset.ea 0x0B#7 = .ok .intcon ∧
      (State.reset.ea 0x03#7 = .ok .status ∧ State.reset.cfg.profile = .p16) ∧
      ((mapped unbankedMap).ea 0x03#7 = .ok .status ∧ (mapped unbankedMap).cfg.profile = .table unbankedMap) := by
  decide

/-- A step in which the environment drives port A. -/
theorem witness_PortReadModifyWriteUsesThePins :
    ({ State.reset with env := { pinsA := some 0x3C#8 } } : State).ea 0x05#7 = .ok (.port .a) ∧
      ({ State.reset with env := { pinsA := some 0x3C#8 } } : State).env.pins .a = some 0x3C#8 := by decide

theorem witness_AddwfToPclIsTheComputedJump : State.reset.ea 0x02#7 = .ok .pcl := by decide

theorem witness_StatusAsDestinationKeepsTimeOutAndPowerDown :
    State.reset.cfg.profile = .p16 ∧ State.reset.ea 0x03#7 = .ok .status := by decide

theorem witness_NineRotationsRestoreRegisterAndCarry : State.reset.ea 0x20#7 = .ok (.plain 0x20) := by decide

end Sys2Proof.Tests
end

/-! PROOFS. What the execution of an instruction can do, said once for all 37 instructions; from it, that every step keeps
the invariant, and that an instruction keeps the flags it does not list. -/

namespace Sys2Proof.Machine

/-! ### The kinds of effect -/

/-- The flags a flag update lists, with a value for each. -/
def FlagUpdate.listed : FlagUpdate → List Flag
  | .unlisted => []
  | .z _ => [.z]
  | .c _ => [.c]
  | .cdcz _ _ _ => [.c, .dc, .z]

/-- The file register a destination designator writes, if it designates the file. -/
def destFile : Dest → FileField → Option FileField
  | .w, _ => none
  | .f, f => some f

/-- `ExecEffect i s t`: the execution of `i` in `s` can answer `t`. One constructor per instruction shape; the
shapes that several instructions share say which instructions these are, by their file destination, their listed flags
and whether they skip or jump. `exec_effect` ties it to the model. -/
inductive ExecEffect : Instr → State → State → Prop
  /-- A result goes to its destination, and the instruction ends (40_byte_oriented.md R100). -/
  | deliver {i : Instr} {s : State} {f : FileField} {l : FileLoc} {d : Dest} {out : Computed}
      (hea : s.ea f = .ok l) (hdest : fileDest i = destFile d f) (hflags : out.2.listed = statusAffected i)
      (hjump : isJump i = false) (hskip : isSkip i = false) :
      ExecEffect i s ((s.toDest l d out).finishDest l d)
  /-- DECFSZ and INCFSZ, but onto the program counter's low byte (R109, R111, D13). -/
  | deliverSkip {i : Instr} {s : State} {f : FileField} {l : FileLoc} {d : Dest} {r : Byte} {test : Bool}
      (hea : s.ea f = .ok l) (hpcl : ¬(d = .f ∧ l = .pcl)) (hdest : fileDest i = destFile d f)
      (hflags : statusAffected i = []) (hjump : isJump i = false) (hskip : isSkip i = true) :
      ExecEffect i s ((s.toDest l d (withoutFlags r)).skipIf test)
  /-- BTFSC and BTFSS (41_bit_oriented.md R133, R134). -/
  | skip {i : Instr} {s : State} {test : Bool} (hdest : fileDest i = none)
      (hflags : statusAffected i = []) (hjump : isJump i = false) (hskip : isSkip i = true) :
      ExecEffect i s (s.skipIf test)
  /-- CLRW and the literal instructions (42_literal_control.md R140). -/
  | literal {i : Instr} {s : State} {out : Computed} (hdest : fileDest i = none)
      (hflags : out.2.listed = statusAffected i) (hjump : isJump i = false) (hskip : isSkip i = false) :
      ExecEffect i s ((s.setFlags out.2).setW out.1).advance
  | nop {s : State} : ExecEffect .nop s s.advance
  | goto {s : State} {k : BitVec 11} : ExecEffect (.goto k) s (s.jump (s.pageTarget k))
  | call {s t : State} {k : BitVec 11} (hpush : s.push (s.pc + 1#13) = .ok t) :
      ExecEffect (.call k) s (t.jump (s.pageTarget k))
  | ret {s u : State} {back : ProgAddr} (hpop : s.pop = .ok (back, u)) : ExecEffect .ret s (u.jump back)
  | retlw {s u : State} {k : Byte} {back : ProgAddr} (hpop : s.pop = .ok (back, u)) :
      ExecEffect (.retlw k) s ((u.setW k).jump back)
  | retfie {s u : State} {back : ProgAddr} (hpop : s.pop = .ok (back, u)) :
      ExecEffect .retfie s ({ u with gie := true }.jump back)
  | clrwdt {s : State} : ExecEffect .clrwdt s (s.clearWatchdog.setTimePower true true).advance
  | sleep {s : State} :
      ExecEffect .sleep s { s.clearWatchdog.setTimePower true false with asleep := true }.advance
  | option {s : State} : ExecEffect .option s (s.writeOption s.w).advance
  | tris {s : State} {f : BitVec 3} {p : Port} (hport : trisPort f = some p) :
      ExecEffect (.tris f) s (s.writeTris p s.w).advance

/-! ### From the instruction shapes to the effects -/

theorem byteOriented_effect {i : Instr} {s t : State} {f : FileField} {d : Dest} {compute : Byte → Computed}
    (h : byteOriented f d compute s = .next t) (hdest : fileDest i = destFile d f)
    (hflags : ∀ v, (compute v).2.listed = statusAffected i) (hjump : isJump i = false) (hskip : isSkip i = false) :
    ExecEffect i s t := by
  obtain ⟨l, hea, rfl⟩ := byteOriented_cases h
  exact .deliver hea hdest (hflags _) hjump hskip

theorem fileWrite_effect {i : Instr} {s t : State} {f : FileField} {out : Computed}
    (h : fileWrite f out s = .next t) (hdest : fileDest i = some f) (hflags : out.2.listed = statusAffected i)
    (hjump : isJump i = false) (hskip : isSkip i = false) : ExecEffect i s t := by
  obtain ⟨l, hea, rfl⟩ := fileWrite_cases h
  exact .deliver (d := .f) hea hdest hflags hjump hskip

theorem skipIfZero_effect {i : Instr} {s t : State} {f : FileField} {d : Dest} {compute : Byte → Byte}
    {iw : InstrWord} (h : skipIfZero f d compute iw s = .next t) (hdest : fileDest i = destFile d f)
    (hflags : statusAffected i = []) (hjump : isJump i = false) (hskip : isSkip i = true) : ExecEffect i s t := by
  obtain ⟨l, hea, hpcl, rfl⟩ := skipIfZero_cases h
  exact .deliverSkip hea hpcl hdest hflags hjump hskip

theorem bitTest_effect {i : Instr} {s t : State} {f : FileField} {test : Byte → Bool}
    (h : bitTest f test s = .next t) (hdest : fileDest i = none) (hflags : statusAffected i = [])
    (hjump : isJump i = false) (hskip : isSkip i = true) : ExecEffect i s t := by
  obtain ⟨l, -, rfl⟩ := bitTest_cases h
  exact .skip hdest hflags hjump hskip

theorem literal_effect {i : Instr} {s t : State} {out : Computed} (h : Machine.literal out s = .next t)
    (hdest : fileDest i = none) (hflags : out.2.listed = statusAffected i) (hjump : isJump i = false)
    (hskip : isSkip i = false) : ExecEffect i s t := by
  obtain rfl := Host.Outcome.next.inj h
  exact .literal hdest hflags hjump hskip

/-- Everything the execution of an instruction can do, if it answers a state: the one case split over all 37. -/
theorem exec_effect {i : Instr} {s t : State} (h : exec i s = .next t) : ExecEffect i s t := by
  cases i with
  | addwf _ d | andwf _ d | comf _ d | decf _ d | incf _ d | iorwf _ d | movf _ d | rlf _ d | rrf _ d
  | subwf _ d | swapf _ d | xorwf _ d =>
    simp only [exec, execAddwf, execAndwf, execComf, execDecf, execIncf, execIorwf, execMovf, execRlf, execRrf,
      execSubwf, execSwapf, execXorwf] at h
    exact byteOriented_effect h (by cases d <;> rfl) (fun _ => rfl) rfl rfl
  | bcf _ _ | bsf _ _ =>
    simp only [exec, execBcf, execBsf] at h
    exact byteOriented_effect h rfl (fun _ => rfl) rfl rfl
  | clrf _ | movwf _ => exact fileWrite_effect h rfl rfl rfl rfl
  | decfsz _ d | incfsz _ d =>
    simp only [exec, execDecfsz, execIncfsz] at h
    exact skipIfZero_effect h (by cases d <;> rfl) rfl rfl rfl
  | btfsc _ _ | btfss _ _ =>
    simp only [exec, execBtfsc, execBtfss] at h
    exact bitTest_effect h rfl rfl rfl rfl
  | clrw | addlw _ | andlw _ | iorlw _ | movlw _ | sublw _ | xorlw _ => exact literal_effect h rfl rfl rfl rfl
  | nop => obtain rfl := Host.Outcome.next.inj h; exact .nop
  | goto k => obtain rfl := Host.Outcome.next.inj h; exact .goto
  | clrwdt => obtain rfl := Host.Outcome.next.inj h; exact .clrwdt
  | sleep => obtain rfl := Host.Outcome.next.inj h; exact .sleep
  | option => obtain rfl := Host.Outcome.next.inj h; exact .option
  | call k => obtain ⟨u, hpush, rfl⟩ := execCall_cases h; exact .call hpush
  | ret => obtain ⟨back, u, hpop, rfl⟩ := returnWith_cases h; exact .ret hpop
  | retlw k => obtain ⟨back, u, hpop, rfl⟩ := returnWith_cases h; exact .retlw hpop
  | retfie =>
    obtain ⟨back, u, hpop, rfl⟩ := State.returnFromInterrupt_cases (execRetfie_cases h)
    exact .retfie hpop
  | tris f => obtain ⟨p, hport, rfl⟩ := execTris_cases h; exact .tris hport

/-! ### What the stack operations leave unchanged -/

/-- A push changes nothing but the two parts of the stack. -/
theorem State.push_frame {s t : State} {v : ProgAddr} (h : s.push v = .ok t) :
    t = { s with stack := t.stack, stale := t.stale } := by
  rcases State.push_cases h with ⟨-, rfl⟩ | ⟨-, -, rfl⟩ <;> rfl

/-- A pop changes nothing but the two parts of the stack. -/
theorem State.pop_frame {s u : State} {back : ProgAddr} (h : s.pop = .ok (back, u)) :
    u = { s with stack := u.stack, stale := u.stale } := by
  rcases State.pop_cases h with ⟨rest, -, rfl⟩ | ⟨-, -, hstale⟩
  · rfl
  · rcases s.popStale_cases with ⟨-, e⟩ | ⟨-, -, e⟩ | ⟨v, rest, -, -, e⟩ <;>
      obtain ⟨-, rfl⟩ := Prod.mk.inj (e.symm.trans hstale) <;> rfl

/-! ### The invariant, part by part -/

theorem State.inv_iff (s : State) :
    s.inv = true ↔ s.cfg.wf = true ∧ Memory.wf s.data = true ∧ Memory.wf s.prog = true ∧
      (∀ cell ∈ s.data, isPlainAddress s.cfg cell.1 = true) ∧ s.stackInv = true := by
  simp [State.inv, and_assoc]

/-- Both policies in one: live and stale slots fit into the depth together, and only `circular` has stale ones. -/
theorem State.stackInv_iff (s : State) :
    s.stackInv = true ↔ s.stack.length + s.stale.length ≤ s.cfg.stackDepth ∧
      (s.cfg.stackPolicy = .fault → s.stale = []) := by
  unfold State.stackInv
  cases s.cfg.stackPolicy with
  | fault =>
    simp only [Bool.and_eq_true, decide_eq_true_eq, forall_const]
    exact and_congr_left fun hnone => by rw [hnone, List.length_nil, Nat.add_zero]
  | circular => simp

/-- The stack may change within its depth. -/
theorem State.inv_of_stack_le {s : State} {stack stale : List ProgAddr} (hs : s.inv = true)
    (hlen : stack.length + stale.length ≤ s.cfg.stackDepth) (hstale : s.cfg.stackPolicy = .fault → stale = []) :
    ({ s with stack := stack, stale := stale } : State).inv = true := by
  obtain ⟨hcfg, hdata, hprog, hplain, -⟩ := s.inv_iff.mp hs
  exact (State.inv_iff _).mpr ⟨hcfg, hdata, hprog, hplain, (State.stackInv_iff _).mpr ⟨hlen, hstale⟩⟩

/-! ### The updates that touch nothing the invariant speaks of -/

section
variable (s : State)

@[simp] theorem State.advance_inv : s.advance.inv = s.inv := rfl
@[simp] theorem State.skipIf_inv (test : Bool) : (s.skipIf test).inv = s.inv := rfl
@[simp] theorem State.jump_inv (t : ProgAddr) : (s.jump t).inv = s.inv := rfl
@[simp] theorem State.setW_inv (v : Byte) : (s.setW v).inv = s.inv := rfl
@[simp] theorem State.clearWatchdog_inv : s.clearWatchdog.inv = s.inv := rfl
@[simp] theorem State.setTimePower_inv (a b : Bool) : (s.setTimePower a b).inv = s.inv := rfl
@[simp] theorem State.writeOption_inv (v : Byte) : (s.writeOption v).inv = s.inv := rfl
@[simp] theorem State.writeTris_inv (p : Port) (v : Byte) : (s.writeTris p v).inv = s.inv := rfl
@[simp] theorem State.arrive_inv : s.arrive.inv = s.inv := rfl
@[simp] theorem State.setFlags_inv (u : FlagUpdate) : (s.setFlags u).inv = s.inv := by cases u <;> rfl
@[simp] theorem State.finishWrite_inv (l : FileLoc) : (s.finishWrite l).inv = s.inv := by cases l <;> rfl
@[simp] theorem State.finishDest_inv (l : FileLoc) (d : Dest) : (s.finishDest l d).inv = s.inv := by
  cases d <;> simp

end

/-! ### Writes stay within plain storage -/

/-- A plain location that a file operand designates is plain storage of the part, in every profile. -/
theorem State.ea_plain_isPlainAddress {s : State} {f : FileField} {a : Nat} (h : s.ea f = .ok (.plain a)) :
    isPlainAddress s.cfg a = true := by
  unfold isPlainAddress
  cases hp : s.cfg.profile with
  | none =>
    rw [s.ea_of_no_profile f hp] at h
    obtain rfl := FileLoc.plain.inj (Except.ok.inj h)
    exact decide_eq_true f.isLt
  | p16 =>
    obtain ⟨n, hn, hloc⟩ : ∃ n < 512, p16Loc s.cfg n = .ok (.plain a) := by
      by_cases hf : f = 0#7
      · subst hf
        exact ⟨_, s.indirectAddress_lt, (s.ea_of_indirect hp).symm.trans h⟩
      · exact ⟨_, s.directAddress_lt f, (s.ea_of_direct f hp hf).symm.trans h⟩
    obtain rfl := p16Loc_plain hloc
    simp [hn, hloc]
  | table map =>
    rw [s.ea_of_table f hp] at h
    rcases locate_cases map.rows (s.mapAddress map f) with ⟨row, hrow, hfirst, hlast, e⟩ | ⟨-, e⟩
    · obtain ⟨b, hb, rfl⟩ := locationIn_plain (Except.ok.inj (e.symm.trans h))
      refine List.any_eq_true.mpr ⟨row, hrow, ?_⟩
      simp only [hb, Bool.and_eq_true, decide_eq_true_eq]
      omega
    · cases e.symm.trans h

theorem State.writeLoc_keeps_inv {s : State} {l : FileLoc} (hs : s.inv = true)
    (hl : ∀ a, l = .plain a → isPlainAddress s.cfg a = true) (b : Bool) (v : Byte) :
    (s.writeLoc l b v).inv = true := by
  cases l with
  | plain a =>
    obtain ⟨hcfg, hdata, hprog, hplain, hstack⟩ := s.inv_iff.mp hs
    refine (State.inv_iff _).mpr ⟨hcfg, Memory.write_wf s.data a v hdata, hprog, fun cell hcell => ?_, hstack⟩
    rcases Memory.mem_write s.data a v cell hcell with rfl | hold
    · exact hl a rfl
    · exact hplain cell hold
  | null | tmr0 | option | pcl | status | fsr | port _ | tris _ | pclath | intcon => exact hs

theorem State.toDest_keeps_inv {s : State} {f : FileField} {l : FileLoc} (hs : s.inv = true)
    (hea : s.ea f = .ok l) (d : Dest) (out : Computed) : (s.toDest l d out).inv = true := by
  cases d with
  | w => simpa using hs
  | f =>
    have hset : (s.setFlags out.2).inv = true := by simpa using hs
    refine State.writeLoc_keeps_inv hset (fun a ha => ?_) _ _
    rw [State.setFlags_cfg]
    exact State.ea_plain_isPlainAddress (ha ▸ hea)

/-! ### The stack stays within its depth -/

/-- A push uses up the stale slot it overwrites, and on a full circular stack drops the bottom. -/
theorem State.push_keeps_inv {s t : State} {v : ProgAddr} (hs : s.inv = true) (h : s.push v = .ok t) :
    t.inv = true := by
  obtain ⟨-, -, -, -, hstack⟩ := s.inv_iff.mp hs
  obtain ⟨hlen, hstale⟩ := s.stackInv_iff.mp hstack
  rcases State.push_cases h with ⟨hroom, rfl⟩ | ⟨hfull, hp, rfl⟩
  · refine State.inv_of_stack_le hs ?_ fun hp => ?_
    · simp only [List.length_cons, List.length_dropLast]
      omega
    · simp [hstale hp]
  · refine State.inv_of_stack_le hs ?_ hstale
    simp only [List.length_take, List.length_cons]
    omega

theorem State.freedSlot_length_le (s : State) (back : ProgAddr) :
    (s.freedSlot back).length ≤ s.stale.length + 1 := by
  unfold State.freedSlot
  split <;> simp

theorem State.freedSlot_of_fault {s : State} (back : ProgAddr) (hp : s.cfg.stackPolicy = .fault) :
    s.freedSlot back = s.stale := by
  simp [State.freedSlot, hp]

/-- A pop of an empty circular stack makes a stale slot only where the depth has room for one. -/
theorem State.popStale_keeps_inv {s : State} (hs : s.inv = true) (hempty : s.stack = [])
    (hp : s.cfg.stackPolicy = .circular) : s.popStale.2.inv = true := by
  obtain ⟨-, -, -, -, hstack⟩ := s.inv_iff.mp hs
  obtain ⟨hlen, -⟩ := s.stackInv_iff.mp hstack
  rcases s.popStale_cases with ⟨hroom, e⟩ | ⟨-, -, e⟩ | ⟨v, rest, -, hstale, e⟩ <;> rw [e]
  · refine State.inv_of_stack_le hs ?_ (by simp [hp])
    simp only [hempty, List.length_nil, List.length_append, List.length_singleton]
    omega
  · exact hs
  · refine State.inv_of_stack_le hs ?_ (by simp [hp])
    simpa [hstale] using hlen

theorem State.pop_keeps_inv {s u : State} {back : ProgAddr} (hs : s.inv = true) (h : s.pop = .ok (back, u)) :
    u.inv = true := by
  rcases State.pop_cases h with ⟨rest, hlive, rfl⟩ | ⟨hempty, hp, e⟩
  · obtain ⟨-, -, -, -, hstack⟩ := s.inv_iff.mp hs
    obtain ⟨hlen, hstale⟩ := s.stackInv_iff.mp hstack
    refine State.inv_of_stack_le hs ?_ fun hp => ?_
    · have hfreed := s.freedSlot_length_le back
      simp only [hlive, List.length_cons] at hlen
      omega
    · rw [State.freedSlot_of_fault back hp, hstale hp]
  · have := State.popStale_keeps_inv hs hempty hp
    rwa [e] at this

/-! ### Every part of a step keeps the invariant -/

theorem ExecEffect.keeps_inv {i : Instr} {s t : State} (h : ExecEffect i s t) (hs : s.inv = true) :
    t.inv = true := by
  cases h with
  | deliver hea => simpa using State.toDest_keeps_inv hs hea _ _
  | deliverSkip hea => simpa using State.toDest_keeps_inv hs hea _ _
  | skip | literal | nop | goto | clrwdt | option | tris => simpa using hs
  | sleep => exact hs
  | call hpush => simpa using State.push_keeps_inv hs hpush
  | ret hpop | retlw hpop | retfie hpop => exact (State.pop_keeps_inv hs hpop :)

theorem exec_keeps_inv {i : Instr} {s t : State} (hs : s.inv = true) (h : exec i s = .next t) : t.inv = true :=
  (exec_effect h).keeps_inv hs

/-- A reset keeps both memories and the parameters, and empties the stack. -/
theorem State.resetBy_keeps_inv {s : State} (hs : s.inv = true) (cause : ResetCause) :
    (s.resetBy cause).inv = true := by
  obtain ⟨hcfg, hdata, hprog, hplain, -⟩ := s.inv_iff.mp hs
  have hstack : (s.resetBy cause).stackInv = true := by simp [State.stackInv_iff]
  rw [State.inv_iff, State.resetBy_cfg, State.resetBy_data, State.resetBy_prog]
  exact ⟨hcfg, hdata, hprog, hplain, hstack⟩

theorem State.takeInterrupt_keeps_inv {s t : State} (hs : s.inv = true) (h : s.takeInterrupt = .ok t) :
    t.inv = true := by
  obtain ⟨u, hpush, rfl⟩ := State.takeInterrupt_cases h
  exact (State.push_keeps_inv hs hpush :)

theorem State.choose_settle_keeps_inv {s t : State} (hs : s.inv = true) (h : s.choose = .settle t) :
    t.inv = true := by
  rcases State.choose_settle h with rfl | rfl | ⟨-, rfl⟩ | ⟨-, -, hint⟩
  · exact State.resetBy_keeps_inv hs _
  · exact State.resetBy_keeps_inv hs _
  · exact hs
  · exact State.takeInterrupt_keeps_inv hs hint

theorem State.choose_execute_keeps_inv {s t : State} (hs : s.inv = true) (h : s.choose = .execute t) :
    t.inv = true := by
  rcases State.choose_execute h with ⟨-, rfl⟩ | ⟨-, rfl⟩ | ⟨-, rfl⟩ <;> exact hs

/-- Settles O10: the boundary keeps the invariant, whether it settles the step or has the instruction at `pc` execute,
and so does the instruction. -/
theorem stepKeepsTheInvariant : Obligations.StepKeepsTheInvariant := by
  intro s t hs h
  have harrive : s.arrive.inv = true := by simpa using hs
  rcases step_cases h with hsettle | ⟨u, i, hexecute, -, hexec⟩
  · exact State.choose_settle_keeps_inv harrive hsettle
  · exact exec_keeps_inv (State.choose_execute_keeps_inv harrive hexecute) hexec

theorem State.launch_inv {cfg : Config} {prog : List (Nat × InstrWord)} (hcfg : cfg.wf = true)
    (hprog : Memory.wf prog = true) : (State.launch cfg prog).inv = true :=
  (State.inv_iff _).mpr
    ⟨hcfg, rfl, hprog, by simp [State.launch], (State.stackInv_iff _).mpr ⟨Nat.zero_le _, fun _ => rfl⟩⟩

/-- Settles O11: data memory and stack are empty at a launch, and the default parameters are within their bounds. -/
theorem launchHasTheInvariant : Obligations.LaunchHasTheInvariant :=
  ⟨State.launch_inv (by decide) rfl, fun _ _ => State.launch_inv⟩

/-! ### The flags that an update leaves unchanged -/

section
variable (s : State) (flag : Flag)

@[simp] theorem State.advance_flag : s.advance.flag flag = s.flag flag := rfl
@[simp] theorem State.skipIf_flag (test : Bool) : (s.skipIf test).flag flag = s.flag flag := rfl
@[simp] theorem State.jump_flag (t : ProgAddr) : (s.jump t).flag flag = s.flag flag := rfl
@[simp] theorem State.setW_flag (v : Byte) : (s.setW v).flag flag = s.flag flag := rfl
@[simp] theorem State.clearWatchdog_flag : s.clearWatchdog.flag flag = s.flag flag := rfl
@[simp] theorem State.writeOption_flag (v : Byte) : (s.writeOption v).flag flag = s.flag flag := rfl
@[simp] theorem State.writeTris_flag (p : Port) (v : Byte) : (s.writeTris p v).flag flag = s.flag flag := rfl
@[simp] theorem State.finishWrite_flag (l : FileLoc) : (s.finishWrite l).flag flag = s.flag flag := by
  cases l <;> rfl
@[simp] theorem State.finishDest_flag (l : FileLoc) (d : Dest) :
    (s.finishDest l d).flag flag = s.flag flag := by
  cases d <;> simp

end

theorem State.push_flag {s t : State} {v : ProgAddr} (h : s.push v = .ok t) (flag : Flag) :
    t.flag flag = s.flag flag := by
  rw [State.push_frame h]; rfl

theorem State.pop_flag {s u : State} {back : ProgAddr} (h : s.pop = .ok (back, u)) (flag : Flag) :
    u.flag flag = s.flag flag := by
  rw [State.pop_frame h]; rfl

/-- 00_scope.md R5 for a flag update. -/
theorem State.setFlags_flag_of_not_listed (s : State) {u : FlagUpdate} {flag : Flag} (h : flag ∉ u.listed) :
    (s.setFlags u).flag flag = s.flag flag := by
  cases u with
  | unlisted => rfl
  | z _ =>
    cases flag with
    | z => simp [FlagUpdate.listed] at h
    | c | dc | timeOut | powerDown => rfl
  | c _ =>
    cases flag with
    | c => simp [FlagUpdate.listed] at h
    | dc | z | timeOut | powerDown => rfl
  | cdcz _ _ _ =>
    cases flag with
    | c | dc | z => simp [FlagUpdate.listed] at h
    | timeOut | powerDown => rfl

/-- STATUS is the only location that holds flags. -/
theorem State.writeLoc_flag_of_ne_status (s : State) {l : FileLoc} (h : l ≠ .status) (b : Bool) (v : Byte)
    (flag : Flag) : (s.writeLoc l b v).flag flag = s.flag flag := by
  cases l with
  | status => exact absurd rfl h
  | plain _ | null | tmr0 | option | pcl | fsr | port _ | tris _ | pclath | intcon => rfl

theorem State.toDest_flag (s : State) {l : FileLoc} {d : Dest} {out : Computed} {flag : Flag}
    (hl : d = .f → l ≠ .status) (h : flag ∉ out.2.listed) : (s.toDest l d out).flag flag = s.flag flag := by
  have hset := s.setFlags_flag_of_not_listed h
  cases d with
  | w => simpa using hset
  | f => exact (State.writeLoc_flag_of_ne_status _ (hl rfl) _ _ flag).trans hset

/-- An instruction that does not write STATUS delivers its result to W or to another location. -/
theorem ne_status_of_not_writesLoc {i : Instr} {s : State} {f : FileField} {l : FileLoc} {d : Dest}
    (hw : ¬WritesLoc i s .status) (hea : s.ea f = .ok l) (hdest : fileDest i = destFile d f) :
    d = .f → l ≠ .status := by
  rintro rfl rfl
  exact hw ⟨f, hdest, hea⟩

/-- TO and PD have their own operation, which CLRWDT and SLEEP list. -/
theorem State.setTimePower_flag (s : State) (a b : Bool) {flag : Flag} (h : flag ∉ [Flag.timeOut, .powerDown]) :
    (s.setTimePower a b).flag flag = s.flag flag := by
  cases flag with
  | timeOut | powerDown => simp at h
  | c | dc | z => rfl

theorem ExecEffect.keeps_flag {i : Instr} {s t : State} {flag : Flag} (h : ExecEffect i s t)
    (hw : ¬WritesLoc i s .status) (hflag : flag ∉ statusAffected i) : t.flag flag = s.flag flag := by
  cases h with
  | deliver hea hdest hflags =>
    simpa using s.toDest_flag (ne_status_of_not_writesLoc hw hea hdest) (hflags ▸ hflag)
  | deliverSkip hea _ hdest =>
    simpa using s.toDest_flag (ne_status_of_not_writesLoc hw hea hdest) List.not_mem_nil
  | literal _ hflags => simpa using s.setFlags_flag_of_not_listed (hflags ▸ hflag)
  | skip | nop | goto | option | tris => simp
  | clrwdt => simpa using s.clearWatchdog.setTimePower_flag true true hflag
  | sleep => exact s.clearWatchdog.setTimePower_flag true false hflag
  | call hpush => simpa using State.push_flag hpush flag
  | ret hpop | retlw hpop | retfie hpop => exact State.pop_flag hpop flag

/-- Settles O48: by the effects an execution can have; a delivery touches an unlisted flag only as a bit of STATUS. -/
theorem unlistedFlagsAreKept : Obligations.UnlistedFlagsAreKept :=
  fun _ _ _ _ h hw hflag => (exec_effect h).keeps_flag hw hflag

end Sys2Proof.Machine

/-! PROOFS. The state's own rules: the return stack at its bounds, the fall-through of the program counter, what writes
TO, PD, PCLATH and the stack, PCL and STATUS as destinations, and the registers after a launch. -/

namespace Sys2Proof.Machine

/-! ### What interrupt entry and the instructions that use the return stack answer -/

section
variable {s t : State}

theorem exec_call_of_push (k : BitVec 11) (h : s.push (s.pc + 1#13) = .ok t) :
    exec (.call k) s = .next (t.jump (s.pageTarget k)) := by
  simp [exec, execCall, h]

theorem exec_call_of_push_error (k : BitVec 11) {r : Fault} (h : s.push (s.pc + 1#13) = .error r) :
    exec (.call k) s = .fault r := by
  simp [exec, execCall, h]

theorem State.takeInterrupt_of_push (h : s.push s.pc = .ok t) :
    s.takeInterrupt = .ok { t with gie := false, pc := s.cfg.intVector } := by
  simp [State.takeInterrupt, h]

theorem State.takeInterrupt_of_push_error {r : Fault} (h : s.push s.pc = .error r) :
    s.takeInterrupt = .error r := by
  simp [State.takeInterrupt, h]

theorem exec_ret_of_pop {back : ProgAddr} (h : s.pop = .ok (back, t)) : exec .ret s = .next (t.jump back) := by
  simp [exec, execReturn, returnWith, h]

theorem exec_retlw_of_pop (k : Byte) {back : ProgAddr} (h : s.pop = .ok (back, t)) :
    exec (.retlw k) s = .next ((t.setW k).jump back) := by
  simp [exec, execRetlw, returnWith, h]

theorem exec_retfie_of_pop {back : ProgAddr} (h : s.pop = .ok (back, t)) :
    exec .retfie s = .next ({ t with gie := true }.jump back) := by
  simp [exec, execRetfie, State.returnFromInterrupt, h]

theorem exec_returns_of_pop_error (k : Byte) {r : Fault} (h : s.pop = .error r) :
    exec .ret s = .fault r ∧ exec (.retlw k) s = .fault r ∧ exec .retfie s = .fault r := by
  simp [exec, execReturn, execRetlw, returnWith, execRetfie, State.returnFromInterrupt, h]

end

/-! ### The return stack at its bounds -/

/-- Settles O34: the push of CALL and of interrupt entry, and the pop of the returns, answer the fault. -/
theorem stackFaultsUnderTheFaultPolicy : Obligations.StackFaultsUnderTheFaultPolicy := by
  intro s k v hpolicy
  refine ⟨fun hfull => ⟨?_, ?_⟩, fun hempty => ?_⟩
  · exact exec_call_of_push_error k (s.push_of_full_fault _ hfull hpolicy)
  · exact State.takeInterrupt_of_push_error (s.push_of_full_fault _ hfull hpolicy)
  · exact exec_returns_of_pop_error v (s.pop_of_empty_fault hempty hpolicy)

/-! The frames do not speak of the stack, the program counter or the cycle count: a state in which only these differ
from `s` is as good as `s` itself in each of the three. -/

theorem sameControl_refl (s : State) : SameControl s s := by simp [SameControl]

theorem sameFiles_refl (s : State) : SameFiles s s := by simp [SameFiles]

theorem sameFlags_refl (s : State) : SameFlags s s := by simp [SameFlags]

/-- 42_literal_control.md R144: the target of a page jump has the literal below and PCLATH<4:3> above. -/
theorem pageJump_jump_pageTarget (s : State) {u : State} (k : BitVec 11) (hcycles : u.cycles = s.cycles) :
    PageJump s (u.jump (s.pageTarget k)) k := by
  simp only [PageJump, State.jump_pc, State.pageTarget, BitVec.cast_eq, State.jump_cycles, hcycles]
  exact ⟨BitVec.extractLsb'_append_eq_right, BitVec.extractLsb'_append_eq_left, trivial⟩

/-- What a return needs of the state `u` that its pop and its own writes answer. -/
theorem returnedTo_jump {s u : State} (p : ProgAddr) (hcycles : u.cycles = s.cycles) (hflags : SameFlags s u)
    (hcontrol : SameControl s u) : ReturnedTo s (u.jump p) p u.stack u.stale :=
  ⟨rfl, rfl, rfl, by simp [hcycles], hflags, hcontrol⟩

/-- A pop of an empty circular stack answers, and changes the stale slots only: a slot that was never written comes to
hold the answer, and of slots that all hold an address the first goes to the end. -/
theorem State.exists_pop_of_empty_circular (s : State) (hempty : s.stack = [])
    (hpolicy : s.cfg.stackPolicy = .circular) :
    ∃ p stale, (s.stale.length < s.cfg.stackDepth → stale = s.stale ++ [p]) ∧
      (∀ u rest, s.cfg.stackDepth ≤ s.stale.length → s.stale = u :: rest → p = u ∧ stale = rest ++ [u]) ∧
      s.pop = .ok (p, { s with stack := [], stale := stale }) := by
  rw [s.pop_of_empty_circular hempty hpolicy]
  rcases s.popStale_cases with ⟨hroom, e⟩ | ⟨hfull, hnone, e⟩ | ⟨u, rest, hfull, hstale, e⟩ <;>
    rw [e, ← hempty]
  · exact ⟨_, _, fun _ => rfl, fun _ _ hfull => absurd hroom (Nat.not_lt.mpr hfull), rfl⟩
  · refine ⟨_, s.stale, fun hroom => absurd hroom (Nat.not_lt.mpr hfull), fun u rest _ hcons => ?_, rfl⟩
    simp [hnone] at hcons
  · refine ⟨_, _, fun hroom => absurd hroom (Nat.not_lt.mpr hfull), fun v rest' _ hcons => ?_, rfl⟩
    obtain ⟨rfl, rfl⟩ := List.cons.inj (hstale.symm.trans hcons)
    exact ⟨rfl, rfl⟩

/-- Settles O35: a push on a full stack and a pop of an empty one answer a state in which only the stack differs, and
the instruction, or interrupt entry, goes on from there. -/
theorem circularStackNeverFaults : Obligations.CircularStackNeverFaults := by
  intro s k v hpolicy
  refine ⟨fun hfull => ⟨?call, ?interrupt⟩, fun hempty => ?returns⟩
  case call =>
    have hpush := s.push_of_full_circular (s.pc + 1#13) hfull hpolicy
    exact ⟨_, exec_call_of_push k hpush, rfl, rfl, pageJump_jump_pageTarget s k rfl, rfl, sameFlags_refl s,
      sameControl_refl s, sameFiles_refl s⟩
  case interrupt =>
    have hpush := s.push_of_full_circular s.pc hfull hpolicy
    exact ⟨_, State.takeInterrupt_of_push hpush, rfl, rfl, rfl, rfl, rfl, sameFlags_refl s, sameControl_refl s,
      sameFiles_refl { s with gie := false }⟩
  case returns =>
    obtain ⟨p, stale, hroom, hwrapped, hpop⟩ := s.exists_pop_of_empty_circular hempty hpolicy
    have hflags := sameFlags_refl s
    have hcontrol := sameControl_refl s
    refine ⟨p, stale, hroom, hwrapped, ?ret, ?retlw, ?retfie⟩
    case ret => exact ⟨_, exec_ret_of_pop hpop, returnedTo_jump p rfl hflags hcontrol, rfl, sameFiles_refl s⟩
    case retlw => exact ⟨_, exec_retlw_of_pop v hpop, returnedTo_jump p rfl hflags hcontrol, rfl, sameFiles_refl s⟩
    case retfie =>
      exact ⟨_, exec_retfie_of_pop hpop, returnedTo_jump p rfl hflags hcontrol, rfl,
        sameFiles_refl { s with gie := true }⟩

/-- Settles O40: CALL leaves `pc + 1` on top, and RETURN pops that. -/
theorem returnComesBackAfterTheCall : Obligations.ReturnComesBackAfterTheCall := by
  intro s k hroom
  have hcall := exec_call_of_push k (s.push_of_room (s.pc + 1#13) hroom)
  exact ⟨_, _, hcall, exec_ret_of_pop (State.pop_of_live _ _ _ rfl), rfl⟩

/-! ### Which instructions write the program counter, PCLATH, TO, PD and the stack -/

/-- An instruction that does not write the location `dest` delivers its result to W or to another location. -/
theorem destination_ne_of_not_writesLoc {i : Instr} {s : State} {f : FileField} {l dest : FileLoc} {d : Dest}
    (hw : ¬WritesLoc i s dest) (hea : s.ea f = .ok l) (hdest : fileDest i = destFile d f) : d = .f → l ≠ dest := by
  rintro rfl rfl
  exact hw ⟨f, hdest, hea⟩

theorem State.writeLoc_pc_of_ne_pcl (s : State) {l : FileLoc} (h : l ≠ .pcl) (b : Bool) (v : Byte) :
    (s.writeLoc l b v).pc = s.pc := by
  cases l with
  | pcl => exact absurd rfl h
  | plain _ | null | tmr0 | option | status | fsr | port _ | tris _ | pclath | intcon => rfl

theorem State.writeLoc_pclath_of_ne_pclath (s : State) {l : FileLoc} (h : l ≠ .pclath) (b : Bool) (v : Byte) :
    (s.writeLoc l b v).pclath = s.pclath := by
  cases l with
  | pclath => exact absurd rfl h
  | plain _ | null | tmr0 | option | pcl | status | fsr | port _ | tris _ | intcon => rfl

theorem State.toDest_pclath (s : State) {l : FileLoc} {d : Dest} (out : Computed) (hl : d = .f → l ≠ .pclath) :
    (s.toDest l d out).pclath = s.pclath := by
  cases d with
  | w => simp
  | f => exact (State.writeLoc_pclath_of_ne_pclath _ (hl rfl) _ _).trans (s.setFlags_pclath _)

/-- 40_byte_oriented.md R100: a delivery that is not to the program counter's low byte ends at the next word. -/
theorem State.finishDest_toDest_pc (s : State) {l : FileLoc} {d : Dest} (out : Computed)
    (hl : d = .f → l ≠ .pcl) : ((s.toDest l d out).finishDest l d).pc = s.pc + 1#13 := by
  cases d with
  | w => simp
  | f =>
    rw [State.finishDest_toFile, State.finishWrite_of_ne_pcl _ _ (hl rfl), State.advance_pc, State.toDest_toFile,
      State.writeLoc_pc_of_ne_pcl _ (hl rfl), State.setFlags_pc]

theorem ExecEffect.falls_through {i : Instr} {s t : State} (h : ExecEffect i s t) (hjump : isJump i = false)
    (hskip : isSkip i = false) (hw : ¬WritesLoc i s .pcl) : t.pc = s.pc + 1#13 := by
  cases h with
  | deliver hea hdest => exact s.finishDest_toDest_pc _ (destination_ne_of_not_writesLoc hw hea hdest)
  | deliverSkip _ _ _ _ _ hskips => simp [hskips] at hskip
  | skip _ _ _ hskips => simp [hskips] at hskip
  | goto | call | ret | retlw | retfie => simp [isJump] at hjump
  | literal | nop | clrwdt | sleep | option | tris => simp

/-- Settles O46: the wrap at 8192 is that of 13-bit addition. -/
theorem instructionFallsThroughUnlessItSetsPc : Obligations.InstructionFallsThroughUnlessItSetsPc := by
  intro i s t h hjump hskip hw
  rw [(exec_effect h).falls_through hjump hskip hw, BitVec.toNat_add]
  rfl

theorem ExecEffect.keeps_timeOut_powerDown {i : Instr} {s t : State} (h : ExecEffect i s t) (hclrwdt : i ≠ .clrwdt)
    (hsleep : i ≠ .sleep) : t.timeOut = s.timeOut ∧ t.powerDown = s.powerDown := by
  cases h with
  | clrwdt => exact absurd rfl hclrwdt
  | sleep => exact absurd rfl hsleep
  | deliver | deliverSkip | skip | literal | nop | goto | option | tris => simp
  | call hpush => exact ⟨State.push_flag hpush .timeOut, State.push_flag hpush .powerDown⟩
  | ret hpop | retlw hpop | retfie hpop => exact ⟨State.pop_flag hpop .timeOut, State.pop_flag hpop .powerDown⟩

/-- Settles O49: CLRWDT and SLEEP by what they answer; a write to STATUS takes neither bit from the data. -/
theorem onlyClrwdtAndSleepWriteTimeOutAndPowerDown : Obligations.OnlyClrwdtAndSleepWriteTimeOutAndPowerDown := by
  intro i s t h
  refine ⟨?_, ?_, (exec_effect h).keeps_timeOut_powerDown⟩
  · rintro rfl
    obtain rfl := Host.Outcome.next.inj h
    exact ⟨rfl, rfl⟩
  · rintro rfl
    obtain rfl := Host.Outcome.next.inj h
    exact ⟨rfl, rfl⟩

theorem ExecEffect.keeps_stack {i : Instr} {s t : State} (h : ExecEffect i s t)
    (hi : isJump i = false ∨ ∃ k, i = .goto k) : SameStack s t := by
  cases h with
  | call | ret | retlw | retfie => simp [isJump] at hi
  | deliver | deliverSkip | skip | literal | nop | goto | clrwdt | sleep | option | tris => simp [SameStack]

/-- Settles O50: only the effects of CALL and the returns push or pop. -/
theorem onlyCallAndReturnsTouchTheStack : Obligations.OnlyCallAndReturnsTouchTheStack :=
  fun _ _ _ h hi => (exec_effect h).keeps_stack hi

theorem State.push_pclath {s t : State} {v : ProgAddr} (h : s.push v = .ok t) : t.pclath = s.pclath := by
  rw [State.push_frame h]

theorem State.pop_pclath {s u : State} {back : ProgAddr} (h : s.pop = .ok (back, u)) : u.pclath = s.pclath := by
  rw [State.pop_frame h]

theorem ExecEffect.keeps_pclath {i : Instr} {s t : State} (h : ExecEffect i s t) (hw : ¬WritesLoc i s .pclath) :
    t.pclath = s.pclath := by
  cases h with
  | deliver hea hdest => simpa using s.toDest_pclath _ (destination_ne_of_not_writesLoc hw hea hdest)
  | deliverSkip hea _ hdest => simpa using s.toDest_pclath _ (destination_ne_of_not_writesLoc hw hea hdest)
  | skip | literal | nop | goto | clrwdt | sleep | option | tris => simp
  | call hpush => simpa using State.push_pclath hpush
  | ret hpop | retlw hpop | retfie hpop => exact (State.pop_pclath hpop :)

/-- Settles O51: PCLATH is read by jumps, and written as a location only. -/
theorem pclathChangesOnlyAsAFileRegister : Obligations.PclathChangesOnlyAsAFileRegister :=
  fun _ _ _ h hw => (exec_effect h).keeps_pclath hw

/-! ### PCL as the destination: the computed jump -/

theorem State.pclByte_toNat (s : State) : s.pclByte.toNat = (s.pc.toNat + 1) % 256 := by
  simp only [State.pclByte, BitVec.toNat_setWidth, BitVec.toNat_add, BitVec.toNat_ofNat]
  omega

theorem addition_toNat (x w : Byte) : (addition x w).1.toNat = (x.toNat + w.toNat) % 256 := by
  simp [addition, add8]

theorem setFlags_addition_c (s : State) (x w : Byte) :
    (s.setFlags (addition x w).2).c = true ↔ 256 ≤ x.toNat + w.toNat := by
  simp [addition, add8, Nat.lt_iff_add_one_le]

/-- 10_state.md R22: the byte written goes below PCLATH. -/
theorem State.writeLoc_pcl_pc_toNat (s : State) (b : Bool) (v : Byte) :
    (s.writeLoc .pcl b v).pc.toNat = s.pclath.toNat * 256 + v.toNat := by
  simp only [State.writeLoc_pcl, BitVec.toNat_cast, BitVec.toNat_append]
  rw [← Nat.shiftLeft_add_eq_or_of_lt v.isLt, Nat.shiftLeft_eq]

/-- Settles O57: the byte read is the low byte of `pc + 1`; the sum goes below PCLATH, its carry to C. -/
theorem addwfToPclIsTheComputedJump : Obligations.AddwfToPclIsTheComputedJump := by
  intro s f hea
  refine ⟨_, byteOriented_of_ok .f (fun v => addition v s.w) hea, ?_, ?_, ?_⟩
  · calc ((s.setFlags (addition s.pclByte s.w).2).writeLoc .pcl true (addition s.pclByte s.w).1).pc.toNat
        = s.pclath.toNat * 256 + (addition s.pclByte s.w).1.toNat := by
          rw [State.writeLoc_pcl_pc_toNat, State.setFlags_pclath]
      _ = s.pclath.toNat * 256 + ((s.pc.toNat + 1) % 256 + s.w.toNat) % 256 := by
          rw [addition_toNat, State.pclByte_toNat]
  · rw [← State.pclByte_toNat]
    exact setFlags_addition_c s s.pclByte s.w
  · simp

/-! ### STATUS as the destination in profile P16 -/

@[simp] theorem State.advance_statusByte (s : State) : s.advance.statusByte = s.statusByte := rfl

theorem statusLayout_of_p16 {cfg : Config} (h : cfg.profile = .p16) :
    statusLayout cfg = StatusLayout.conventional := by
  simp [statusLayout, h]

theorem getLsbD_placeBit (m : BitVec 3) (b : Bool) {n : Nat} (hn : n < 8) :
    (placeBit (some m) b).getLsbD n = (b && decide (n = m.toNat)) := by
  cases b with
  | false => simp [placeBit]
  | true => simp [placeBit, ← BitVec.twoPow_eq, hn]

/-- 10_state.md R42: the bits of STATUS in profile P16, from bit 0 on. -/
theorem State.statusByte_getLsbD_of_p16 {s : State} (h : s.cfg.profile = .p16) {n : Nat} (hn : n < 8) :
    s.statusByte.getLsbD n = [s.c, s.dc, s.z, s.powerDown, s.timeOut, s.rp0, s.rp1, s.irp].getD n false := by
  simp only [State.statusByte, statusLayout_of_p16 h, StatusLayout.conventional, BitVec.getLsbD_or,
    getLsbD_placeBit _ _ hn]
  interval_cases n <;> simp

/-- 10_state.md R42, the note: a data write keeps TO and PD, and the flags too where the instruction lists any. -/
theorem State.writeStatus_statusByte_getLsbD {s : State} (h : s.cfg.profile = .p16) (lists : Bool) (v : Byte)
    {n : Nat} (hn : n < 8) :
    (s.writeStatus lists v).statusByte.getLsbD n =
      if n = 3 ∨ n = 4 ∨ (lists = true ∧ n < 3) then s.statusByte.getLsbD n else v.getLsbD n := by
  have hwritten : (s.writeStatus lists v).cfg.profile = .p16 := h
  rw [State.statusByte_getLsbD_of_p16 hwritten hn, State.statusByte_getLsbD_of_p16 h hn]
  simp only [State.writeStatus, statusLayout_of_p16 h, StatusLayout.conventional, takeBit]
  interval_cases n <;> cases lists <;> rfl

theorem State.setZ_statusByte_getLsbD {s : State} (h : s.cfg.profile = .p16) (z : Bool) {n : Nat} (hn : n < 8) :
    ({ s with z := z } : State).statusByte.getLsbD n = if n = 2 then z else s.statusByte.getLsbD n := by
  have hset : ({ s with z := z } : State).cfg.profile = .p16 := h
  rw [State.statusByte_getLsbD_of_p16 hset hn, State.statusByte_getLsbD_of_p16 h hn]
  interval_cases n <;> rfl

/-- 41_bit_oriented.md R132. -/
theorem getLsbD_setBit (v : Byte) (b : BitVec 3) (n : Nat) :
    (setBit v b).getLsbD n = if n = b.toNat then true else v.getLsbD n := by
  rw [setBit, bitMask, ← BitVec.twoPow_eq, BitVec.getLsbD_or, BitVec.getLsbD_twoPow]
  by_cases h : n = b.toNat
  · simp [h, b.isLt]
  · simp [h, Ne.symm h]

section
variable {s : State} {f : FileField} (hea : s.ea f = .ok .status)
include hea

theorem exec_clrf_of_status :
    exec (.clrf f) s = .next (({ s with z := true } : State).writeStatus true 0x00#8).advance :=
  fileWrite_of_ok _ hea

theorem exec_movwf_of_status : exec (.movwf f) s = .next (s.writeStatus false s.w).advance :=
  fileWrite_of_ok _ hea

theorem exec_bsf_of_status (b : BitVec 3) :
    exec (.bsf f b) s = .next (s.writeStatus false (setBit s.statusByte b)).advance :=
  byteOriented_of_ok .f (fun v => withoutFlags (setBit v b)) hea

end

/-- Settles O58: CLRF lists Z, so that its write leaves the flags; MOVWF and BSF list none. -/
theorem statusAsDestinationKeepsTimeOutAndPowerDown : Obligations.StatusAsDestinationKeepsTimeOutAndPowerDown := by
  intro s f b hprofile hea
  refine ⟨⟨_, exec_clrf_of_status hea, fun n hn => ?clrf⟩, ⟨_, exec_movwf_of_status hea, fun n hn => ?movwf⟩,
    ⟨_, exec_bsf_of_status hea b, fun n hn => ?bsf⟩⟩
  case clrf =>
    have hset : ({ s with z := true } : State).cfg.profile = .p16 := hprofile
    rw [State.advance_statusByte, State.writeStatus_statusByte_getLsbD hset _ _ hn,
      State.setZ_statusByte_getLsbD hprofile true hn, BitVec.getLsbD_zero]
    interval_cases n <;> simp
  case movwf =>
    rw [State.advance_statusByte, State.writeStatus_statusByte_getLsbD hprofile _ _ hn]
    simp
  case bsf =>
    rw [State.advance_statusByte, State.writeStatus_statusByte_getLsbD hprofile _ _ hn, getLsbD_setBit]
    simp

/-! ### The launch -/

/-- The profile's registers at a launch are what the profile's reset values say. -/
theorem launch_profileRegistersReset (cfg : Config) (prog : List (Nat × InstrWord)) :
    ProfileRegistersReset (State.launch cfg prog) := by
  refine ⟨fun hp16 => ?_, fun map htable => ?_, fun _ => ⟨rfl, rfl, rfl⟩⟩
  · replace hp16 : cfg.profile = .p16 := hp16
    exact ⟨by simp [State.launch, Config.optionReset, hp16], fun p => by
      cases p <;> simp [State.launch, Config.trisReset, PortRegs.get, hp16]⟩
  · replace htable : cfg.profile = .table map := htable
    exact ⟨by simp [State.launch, Config.optionReset, htable], fun p => by
      cases p <;> simp [State.launch, Config.trisReset, PortRegs.get, htable]⟩

/-- Settles O6: by the launch state, whose OPTION and TRIS are those of the profile. -/
theorem launchLeavesTheResetValuesOfTheSpec : Obligations.LaunchLeavesTheResetValuesOfTheSpec :=
  fun cfg prog => ⟨rfl, rfl, rfl, rfl, rfl, rfl, rfl, rfl, rfl, fun _ => rfl, launch_profileRegistersReset cfg prog⟩

end Sys2Proof.Machine

/-! PROOFS. Program memory and data memory: what a fetch selects, what no step and no instruction depends on or changes,
where a file operand faults, and what a file address designates, reads and writes. -/

namespace Sys2Proof.Machine

/-! ### The fetch -/

section
variable {s : State}

theorem State.fetchAddress_of_lt (h : s.pc.toNat < s.cfg.progWords) : s.fetchAddress = .ok s.pc.toNat := by
  simp [State.fetchAddress, h]

theorem State.fetchAddress_of_fault (h : s.cfg.progWords ≤ s.pc.toNat) (hpolicy : s.cfg.fetchPolicy = .fault) :
    s.fetchAddress = .error (.fetchOutOfRange s.pc) := by
  simp [State.fetchAddress, Nat.not_lt.mpr h, hpolicy]

/-- Below `PROG_WORDS` the remainder is the address itself. -/
theorem State.fetchAddress_of_wrap (hpolicy : s.cfg.fetchPolicy = .wrap) :
    s.fetchAddress = .ok (s.pc.toNat % s.cfg.progWords) := by
  by_cases h : s.pc.toNat < s.cfg.progWords
  · rw [State.fetchAddress_of_lt h, Nat.mod_eq_of_lt h]
  · simp [State.fetchAddress, h, hpolicy]

theorem State.fetch_of_fetchAddress_error {r : Fault} (h : s.fetchAddress = .error r) : s.fetch = .error r := by
  simp [State.fetch, h]

theorem State.fetch_of_unloaded {a : Nat} (ha : s.fetchAddress = .ok a) (hr : Memory.read s.prog a = none) :
    s.fetch = .error (.unloadedWord s.pc) := by
  simp [State.fetch, ha, hr]

end

/-- Settles O8: by the address the fetch selects in each of the four cases. -/
theorem fetchSelectsTheProgramWord : Obligations.FetchSelectsTheProgramWord := fun _ =>
  ⟨fun _ hlt hread => State.fetch_of_read (State.fetchAddress_of_lt hlt) hread,
    fun hle hpolicy => State.fetch_of_fetchAddress_error (State.fetchAddress_of_fault hle hpolicy),
    fun _ _ hpolicy hread => State.fetch_of_read (State.fetchAddress_of_wrap hpolicy) hread,
    fun hlt hread => State.fetch_of_unloaded (State.fetchAddress_of_lt hlt) hread⟩

/-! ### Program memory and the parameters are constant -/

/-- Program memory and the parameters are unchanged. -/
def SameProgram (s t : State) : Prop := t.prog = s.prog ∧ t.cfg = s.cfg

theorem sameProgram_refl (s : State) : SameProgram s s := ⟨rfl, rfl⟩

theorem SameProgram.trans {s t u : State} (hst : SameProgram s t) (htu : SameProgram t u) : SameProgram s u :=
  ⟨htu.1.trans hst.1, htu.2.trans hst.2⟩

theorem State.push_sameProgram {s t : State} {v : ProgAddr} (h : s.push v = .ok t) : SameProgram s t := by
  rw [State.push_frame h]
  exact sameProgram_refl s

theorem State.pop_sameProgram {s u : State} {back : ProgAddr} (h : s.pop = .ok (back, u)) : SameProgram s u := by
  rw [State.pop_frame h]
  exact sameProgram_refl s

theorem ExecEffect.sameProgram {i : Instr} {s t : State} (h : ExecEffect i s t) : SameProgram s t := by
  cases h with
  | deliver | deliverSkip | skip | literal | nop | goto | clrwdt | option | tris => simp [SameProgram]
  | sleep => exact sameProgram_refl s
  | call hpush => exact (State.push_sameProgram hpush :)
  | ret hpop | retlw hpop | retfie hpop => exact (State.pop_sameProgram hpop :)

theorem State.choose_settle_sameProgram {s t : State} (h : s.choose = .settle t) : SameProgram s t := by
  rcases State.choose_settle h with rfl | rfl | ⟨-, rfl⟩ | ⟨-, -, hint⟩
  · simp [SameProgram, State.externalReset]
  · simp [SameProgram]
  · exact sameProgram_refl _
  · obtain ⟨u, hpush, rfl⟩ := State.takeInterrupt_cases hint
    exact (State.push_sameProgram hpush :)

theorem State.choose_execute_sameProgram {s t : State} (h : s.choose = .execute t) : SameProgram s t := by
  rcases State.choose_execute h with ⟨-, rfl⟩ | ⟨-, rfl⟩ | ⟨-, rfl⟩ <;> exact sameProgram_refl _

/-- Settles O12: the environment's arrival, the boundary's choice and the instruction each keep both. -/
theorem stepKeepsProgramAndParameters : Obligations.StepKeepsProgramAndParameters := by
  intro s t h
  have harrive : SameProgram s s.arrive := ⟨s.arrive_prog, s.arrive_cfg⟩
  rcases step_cases h with hsettle | ⟨u, i, hexecute, -, hexec⟩
  · exact harrive.trans (State.choose_settle_sameProgram hsettle)
  · exact harrive.trans ((State.choose_execute_sameProgram hexecute).trans (exec_effect hexec).sameProgram)

/-! ### The instructions with a file operand, by shape -/

/-- Every instruction with a file operand has one of four shapes: the one case split over them. -/
theorem exec_shape_of_fileOperand {i : Instr} {f : FileField} (hf : fileOperand i = some f) (s : State) :
    (∃ d compute, exec i s = byteOriented f d compute s) ∨ (∃ out, exec i s = fileWrite f out s) ∨
      (∃ d compute iw, exec i s = skipIfZero f d compute iw s) ∨ ∃ test, exec i s = bitTest f test s := by
  cases i with
  | addwf | andwf | comf | decf | incf | iorwf | movf | rlf | rrf | subwf | swapf | xorwf | bcf | bsf =>
    obtain rfl := Option.some.inj hf
    simp only [exec, execAddwf, execAndwf, execComf, execDecf, execIncf, execIorwf, execMovf, execRlf, execRrf,
      execSubwf, execSwapf, execXorwf, execBcf, execBsf]
    exact .inl ⟨_, _, rfl⟩
  | clrf | movwf =>
    obtain rfl := Option.some.inj hf
    exact .inr (.inl ⟨_, rfl⟩)
  | decfsz | incfsz =>
    obtain rfl := Option.some.inj hf
    simp only [exec, execDecfsz, execIncfsz]
    exact .inr (.inr (.inl ⟨_, _, _, rfl⟩))
  | btfsc | btfss =>
    obtain rfl := Option.some.inj hf
    simp only [exec, execBtfsc, execBtfss]
    exact .inr (.inr (.inr ⟨_, rfl⟩))
  | clrw | nop | addlw | andlw | call | clrwdt | goto | iorlw | movlw | retfie | retlw | ret | sleep | sublw | xorlw
  | option | tris => cases hf

theorem exec_of_ea_error {i : Instr} {s : State} {f : FileField} {r : Fault} (hf : fileOperand i = some f)
    (hea : s.ea f = .error r) : exec i s = .fault r := by
  obtain ⟨d, compute, e⟩ | ⟨out, e⟩ | ⟨d, compute, iw, e⟩ | ⟨test, e⟩ := exec_shape_of_fileOperand hf s <;> rw [e]
  · exact byteOriented_of_error d compute hea
  · exact fileWrite_of_error out hea
  · exact skipIfZero_of_error d compute iw hea
  · exact bitTest_of_error test hea

/-- Where the operand designates a location the instruction completes, but for a skip onto the program counter (D13). -/
theorem exec_of_ea_ok {i : Instr} {s : State} {f : FileField} {l : FileLoc} (hf : fileOperand i = some f)
    (hea : s.ea f = .ok l) :
    (∃ t, exec i s = .next t) ∨ l = .pcl ∧ ∃ iw, exec i s = .fault (.unspecifiedCombination s.pc iw) := by
  obtain ⟨d, compute, e⟩ | ⟨out, e⟩ | ⟨d, compute, iw, e⟩ | ⟨test, e⟩ := exec_shape_of_fileOperand hf s <;> rw [e]
  · exact .inl ⟨_, byteOriented_of_ok d compute hea⟩
  · exact .inl ⟨_, fileWrite_of_ok out hea⟩
  · by_cases hpcl : d = .f ∧ l = .pcl
    · obtain ⟨rfl, rfl⟩ := hpcl
      exact .inr ⟨rfl, iw, skipIfZero_of_pcl compute iw hea⟩
    · exact .inl ⟨_, skipIfZero_of_ok d compute iw hea hpcl⟩
  · exact .inl ⟨_, bitTest_of_ok test hea⟩

/-! ### Where an instruction stops -/

theorem State.push_error {s : State} {v : ProgAddr} {r : Fault} (h : s.push v = .error r) :
    r = .stackOverflow s.pc := by
  unfold State.push at h
  split at h
  · cases h
  · split at h
    · exact (Except.error.inj h).symm
    · cases h

theorem State.pop_error {s : State} {r : Fault} (h : s.pop = .error r) : r = .stackUnderflow s.pc := by
  unfold State.pop at h
  split at h
  · cases h
  · split at h
    · exact (Except.error.inj h).symm
    · cases h

theorem exec_call_fault {s : State} {k : BitVec 11} {r : Fault} (h : exec (.call k) s = .fault r) :
    r = .stackOverflow s.pc := by
  cases hpush : s.push (s.pc + 1#13) with
  | error e =>
    rw [exec_call_of_push_error k hpush] at h
    exact Host.Outcome.fault.inj h ▸ State.push_error hpush
  | ok t =>
    rw [exec_call_of_push k hpush] at h
    cases h

theorem exec_return_fault {i : Instr} {s : State} {r : Fault} (hi : i = .ret ∨ i = .retfie ∨ ∃ k, i = .retlw k)
    (h : exec i s = .fault r) : r = .stackUnderflow s.pc := by
  cases hpop : s.pop with
  | error e =>
    have hfault : exec i s = .fault e := by
      obtain rfl | rfl | ⟨k, rfl⟩ := hi
      · obtain ⟨hret, -, -⟩ := exec_returns_of_pop_error 0#8 hpop
        exact hret
      · obtain ⟨-, -, hretfie⟩ := exec_returns_of_pop_error 0#8 hpop
        exact hretfie
      · obtain ⟨-, hretlw, -⟩ := exec_returns_of_pop_error k hpop
        exact hretlw
    obtain rfl := Host.Outcome.fault.inj (hfault.symm.trans h)
    exact State.pop_error hpop
  | ok back =>
    obtain rfl | rfl | ⟨k, rfl⟩ := hi
    · cases (exec_ret_of_pop hpop).symm.trans h
    · cases (exec_retfie_of_pop hpop).symm.trans h
    · cases (exec_retlw_of_pop k hpop).symm.trans h

/-- An instruction without a file operand can stop at the bounds of the return stack only. -/
theorem exec_fault_of_no_fileOperand {i : Instr} {s : State} {r : Fault} (hf : fileOperand i = none)
    (h : exec i s = .fault r) : r = .stackOverflow s.pc ∨ r = .stackUnderflow s.pc := by
  cases i with
  | addwf | andwf | comf | decf | incf | iorwf | movf | rlf | rrf | subwf | swapf | xorwf | bcf | bsf | clrf | movwf
  | decfsz | incfsz | btfsc | btfss => cases hf
  | clrw | nop | addlw | andlw | clrwdt | goto | iorlw | movlw | sleep | sublw | xorlw | option => cases h
  | tris f =>
    simp only [exec, execTris] at h
    split at h <;> cases h
  | call k => exact .inl (exec_call_fault h)
  | ret => exact .inr (exec_return_fault (.inl rfl) h)
  | retfie => exact .inr (exec_return_fault (.inr (.inl rfl)) h)
  | retlw k => exact .inr (exec_return_fault (.inr (.inr ⟨k, rfl⟩)) h)

theorem portLoc_error {cfg : Config} {p : Port} {a : Nat} {r : Fault} (h : portLoc cfg p a = .error r) :
    r = .unmappedFile a := by
  unfold portLoc at h
  split at h
  · split at h
    case h_3 => exact (Except.error.inj h).symm
    all_goals cases h
  · exact (Except.error.inj h).symm

theorem p16Loc_error {cfg : Config} {a : Nat} {r : Fault} (h : p16Loc cfg a = .error r) : r = .unmappedFile a := by
  unfold p16Loc at h
  split at h
  · exact (Except.error.inj h).symm
  · split at h
    case h_2 =>
      split at h
      case h_3 => exact (Except.error.inj h).symm
      all_goals cases h
    case h_6 | h_7 | h_8 => exact portLoc_error h
    case h_11 =>
      split at h
      · cases h
      · exact (Except.error.inj h).symm
    all_goals cases h

/-- F3: the only fault of `ea` is `UnmappedFile`, in every profile. -/
theorem State.ea_error {s : State} {f : FileField} {r : Fault} (h : s.ea f = .error r) : ∃ a, r = .unmappedFile a := by
  cases hp : s.cfg.profile with
  | none =>
    rw [s.ea_of_no_profile f hp] at h
    cases h
  | p16 =>
    by_cases hf : f = 0#7
    · subst hf
      exact ⟨_, p16Loc_error ((s.ea_of_indirect hp).symm.trans h)⟩
    · exact ⟨_, p16Loc_error ((s.ea_of_direct f hp hf).symm.trans h)⟩
  | table map =>
    rw [s.ea_of_table f hp] at h
    rcases locate_cases map.rows (s.mapAddress map f) with ⟨row, -, -, -, e⟩ | ⟨-, e⟩
    · cases e.symm.trans h
    · exact ⟨_, Except.error.inj (h.symm.trans e)⟩

/-- Settles O32: an operand that designates a location, and an instruction without one, can stop for other reasons
only. -/
theorem unmappedFileOperandFaults : Obligations.UnmappedFileOperandFaults := by
  refine ⟨fun i s f r hf hea => ⟨exec_of_ea_error hf hea, State.ea_error hea⟩, fun i s a h => ?_⟩
  cases hf : fileOperand i with
  | none => rcases exec_fault_of_no_fileOperand hf h with hr | hr <;> cases hr
  | some f =>
    refine ⟨f, rfl, ?_⟩
    cases hea : s.ea f with
    | error r => rw [Host.Outcome.fault.inj ((exec_of_ea_error hf hea).symm.trans h)]
    | ok l =>
      rcases exec_of_ea_ok hf hea with ⟨t, e⟩ | ⟨-, iw, e⟩
      · cases e.symm.trans h
      · cases e.symm.trans h

/-! ### The pop of a stale slot, case by case -/

section
variable (s : State)

theorem State.popStale_of_room (h : s.stale.length < s.cfg.stackDepth) :
    s.popStale = (Config.emptySlot s.tick, { s with stale := s.stale ++ [Config.emptySlot s.tick] }) := by
  simp [State.popStale, h]

theorem State.popStale_of_none (h : s.cfg.stackDepth ≤ s.stale.length) (hnone : s.stale = []) :
    s.popStale = (Config.emptySlot s.tick, s) := by
  rw [State.popStale, if_neg (Nat.not_lt.mpr h), hnone]

theorem State.popStale_of_full {v : ProgAddr} {rest : List ProgAddr} (h : s.cfg.stackDepth ≤ s.stale.length)
    (hstale : s.stale = v :: rest) : s.popStale = (v, { s with stale := rest ++ [v] }) := by
  rw [State.popStale, if_neg (Nat.not_lt.mpr h), hstale]

end

/-! ### Execution elsewhere: with another program, at a later time -/

/-- The state with another program memory, `n` cycles later. -/
def State.elsewhere (s : State) (prog : List (Nat × InstrWord)) (n : Nat) : State :=
  { s with prog := prog, cycles := s.cycles + n }

/-- What an instruction answers, with another program memory, `n` cycles later. -/
def resultElsewhere (prog : List (Nat × InstrWord)) (n : Nat) : Result → Result
  | .next t => .next (t.elsewhere prog n)
  | .fault r => .fault r
  | .refused r => .refused r

section
variable (s : State) (prog : List (Nat × InstrWord)) (n : Nat)

theorem State.elsewhere_ea (f : FileField) : (s.elsewhere prog n).ea f = s.ea f := rfl

theorem State.elsewhere_readLoc (l : FileLoc) : (s.elsewhere prog n).readLoc l = s.readLoc l := by cases l <;> rfl

theorem State.elsewhere_advance : (s.elsewhere prog n).advance = s.advance.elsewhere prog n := by
  simp [State.elsewhere, State.advance, Nat.add_right_comm]

theorem State.elsewhere_skipIf (test : Bool) : (s.elsewhere prog n).skipIf test = (s.skipIf test).elsewhere prog n := by
  cases test <;> simp [State.elsewhere, State.skipIf, Nat.add_right_comm]

theorem State.elsewhere_jump (t : ProgAddr) : (s.elsewhere prog n).jump t = (s.jump t).elsewhere prog n := by
  simp [State.elsewhere, State.jump, Nat.add_right_comm]

theorem State.elsewhere_setFlags (u : FlagUpdate) :
    (s.elsewhere prog n).setFlags u = (s.setFlags u).elsewhere prog n := by
  cases u <;> rfl

theorem State.elsewhere_setW (v : Byte) : (s.elsewhere prog n).setW v = (s.setW v).elsewhere prog n := rfl

theorem State.elsewhere_writeLoc (l : FileLoc) (b : Bool) (v : Byte) :
    (s.elsewhere prog n).writeLoc l b v = (s.writeLoc l b v).elsewhere prog n := by
  cases l <;> rfl

theorem State.elsewhere_finishWrite (l : FileLoc) :
    (s.elsewhere prog n).finishWrite l = (s.finishWrite l).elsewhere prog n := by
  cases l with
  | pcl => simp [State.elsewhere, Nat.add_right_comm]
  | plain _ | null | tmr0 | option | status | fsr | port _ | tris _ | pclath | intcon =>
    exact s.elsewhere_advance prog n

theorem State.elsewhere_toDest (l : FileLoc) (d : Dest) (out : Computed) :
    (s.elsewhere prog n).toDest l d out = (s.toDest l d out).elsewhere prog n := by
  cases d <;> simp only [State.toDest, State.elsewhere_setFlags, State.elsewhere_setW, State.elsewhere_writeLoc]

theorem State.elsewhere_finishDest (l : FileLoc) (d : Dest) :
    (s.elsewhere prog n).finishDest l d = (s.finishDest l d).elsewhere prog n := by
  cases d with
  | w => exact s.elsewhere_advance prog n
  | f => exact s.elsewhere_finishWrite prog n l

/-- A push writes the same slot elsewhere, or raises the same fault. -/
theorem State.elsewhere_push (v : ProgAddr) :
    (s.elsewhere prog n).push v = (s.push v).map (State.elsewhere · prog n) := by
  rcases Nat.lt_or_ge s.stack.length s.cfg.stackDepth with hroom | hfull
  · rw [s.push_of_room v hroom]
    exact (s.elsewhere prog n).push_of_room v hroom
  · cases hp : s.cfg.stackPolicy with
    | fault =>
      rw [s.push_of_full_fault v hfull hp]
      exact (s.elsewhere prog n).push_of_full_fault v hfull hp
    | circular =>
      rw [s.push_of_full_circular v hfull hp]
      exact (s.elsewhere prog n).push_of_full_circular v hfull hp

theorem State.elsewhere_popStale :
    (s.elsewhere prog n).popStale = s.popStale.map id (State.elsewhere · prog n) := by
  rcases Nat.lt_or_ge s.stale.length s.cfg.stackDepth with hroom | hfull
  · rw [s.popStale_of_room hroom]
    exact (s.elsewhere prog n).popStale_of_room hroom
  · cases hstale : s.stale with
    | nil =>
      rw [s.popStale_of_none hfull hstale]
      exact (s.elsewhere prog n).popStale_of_none hfull hstale
    | cons v rest =>
      rw [s.popStale_of_full hfull hstale]
      exact (s.elsewhere prog n).popStale_of_full hfull hstale

/-- A pop answers the same address elsewhere, or raises the same fault. -/
theorem State.elsewhere_pop :
    (s.elsewhere prog n).pop = s.pop.map (Prod.map id (State.elsewhere · prog n)) := by
  cases hs : s.stack with
  | cons t rest =>
    rw [s.pop_of_live t rest hs]
    exact (s.elsewhere prog n).pop_of_live t rest hs
  | nil =>
    cases hp : s.cfg.stackPolicy with
    | fault =>
      rw [s.pop_of_empty_fault hs hp]
      exact (s.elsewhere prog n).pop_of_empty_fault hs hp
    | circular =>
      rw [s.pop_of_empty_circular hs hp, (s.elsewhere prog n).pop_of_empty_circular hs hp, s.elsewhere_popStale]
      rfl

/-! Each instruction shape, and so each instruction, answers elsewhere what it answers here. -/

theorem byteOriented_elsewhere (f : FileField) (d : Dest) (compute : Byte → Computed) :
    byteOriented f d compute (s.elsewhere prog n) = resultElsewhere prog n (byteOriented f d compute s) := by
  cases hea : s.ea f with
  | error r => rw [byteOriented_of_error d compute hea]; exact byteOriented_of_error d compute hea
  | ok l =>
    have helsewhere : (s.elsewhere prog n).ea f = .ok l := hea
    rw [byteOriented_of_ok d compute hea, byteOriented_of_ok d compute helsewhere, State.elsewhere_readLoc,
      State.elsewhere_toDest, State.elsewhere_finishDest]
    rfl

theorem fileWrite_elsewhere (f : FileField) (out : Computed) :
    fileWrite f out (s.elsewhere prog n) = resultElsewhere prog n (fileWrite f out s) := by
  cases hea : s.ea f with
  | error r => rw [fileWrite_of_error out hea]; exact fileWrite_of_error out hea
  | ok l =>
    have helsewhere : (s.elsewhere prog n).ea f = .ok l := hea
    rw [fileWrite_of_ok out hea, fileWrite_of_ok out helsewhere, State.elsewhere_toDest, State.elsewhere_finishWrite]
    rfl

theorem skipIfZero_elsewhere (f : FileField) (d : Dest) (compute : Byte → Byte) (iw : InstrWord) :
    skipIfZero f d compute iw (s.elsewhere prog n) = resultElsewhere prog n (skipIfZero f d compute iw s) := by
  cases hea : s.ea f with
  | error r => rw [skipIfZero_of_error d compute iw hea]; exact skipIfZero_of_error d compute iw hea
  | ok l =>
    have helsewhere : (s.elsewhere prog n).ea f = .ok l := hea
    by_cases hpcl : d = .f ∧ l = .pcl
    · obtain ⟨rfl, rfl⟩ := hpcl
      rw [skipIfZero_of_pcl compute iw hea]
      exact skipIfZero_of_pcl compute iw helsewhere
    · rw [skipIfZero_of_ok d compute iw hea hpcl, skipIfZero_of_ok d compute iw helsewhere hpcl,
        State.elsewhere_readLoc, State.elsewhere_toDest, State.elsewhere_skipIf]
      rfl

theorem bitTest_elsewhere (f : FileField) (test : Byte → Bool) :
    bitTest f test (s.elsewhere prog n) = resultElsewhere prog n (bitTest f test s) := by
  cases hea : s.ea f with
  | error r => rw [bitTest_of_error test hea]; exact bitTest_of_error test hea
  | ok l =>
    have helsewhere : (s.elsewhere prog n).ea f = .ok l := hea
    rw [bitTest_of_ok test hea, bitTest_of_ok test helsewhere, State.elsewhere_readLoc, State.elsewhere_skipIf]
    rfl

theorem literal_elsewhere (out : Computed) :
    literal out (s.elsewhere prog n) = resultElsewhere prog n (literal out s) := by
  simp only [literal, State.elsewhere_setFlags, State.elsewhere_setW, State.elsewhere_advance, resultElsewhere]

theorem exec_call_elsewhere (k : BitVec 11) :
    exec (.call k) (s.elsewhere prog n) = resultElsewhere prog n (exec (.call k) s) := by
  have helsewhere := s.elsewhere_push prog n (s.pc + 1#13)
  cases hpush : s.push (s.pc + 1#13) with
  | error r =>
    rw [hpush] at helsewhere
    rw [exec_call_of_push_error k hpush]
    exact exec_call_of_push_error k helsewhere
  | ok t =>
    rw [hpush] at helsewhere
    rw [exec_call_of_push k hpush, exec_call_of_push k helsewhere, State.elsewhere_jump]
    rfl

theorem exec_returns_elsewhere (k : Byte) :
    exec .ret (s.elsewhere prog n) = resultElsewhere prog n (exec .ret s) ∧
      exec (.retlw k) (s.elsewhere prog n) = resultElsewhere prog n (exec (.retlw k) s) ∧
      exec .retfie (s.elsewhere prog n) = resultElsewhere prog n (exec .retfie s) := by
  have helsewhere := s.elsewhere_pop prog n
  cases hpop : s.pop with
  | error r =>
    rw [hpop] at helsewhere
    obtain ⟨hret, hretlw, hretfie⟩ := exec_returns_of_pop_error k hpop
    rw [hret, hretlw, hretfie]
    exact exec_returns_of_pop_error k helsewhere
  | ok popped =>
    obtain ⟨back, u⟩ := popped
    rw [hpop] at helsewhere
    rw [exec_ret_of_pop hpop, exec_retlw_of_pop k hpop, exec_retfie_of_pop hpop, exec_ret_of_pop helsewhere,
      exec_retlw_of_pop k helsewhere, exec_retfie_of_pop helsewhere, State.elsewhere_setW, State.elsewhere_jump,
      State.elsewhere_jump]
    exact ⟨rfl, rfl, congrArg _ (State.elsewhere_jump { u with gie := true } prog n back)⟩

/-- The diagram commutes for all 37 instructions. -/
theorem exec_elsewhere (i : Instr) : exec i (s.elsewhere prog n) = resultElsewhere prog n (exec i s) := by
  cases i with
  | addwf | andwf | comf | decf | incf | iorwf | movf | rlf | rrf | subwf | swapf | xorwf | bcf | bsf =>
    simp only [exec, execAddwf, execAndwf, execComf, execDecf, execIncf, execIorwf, execMovf, execRlf, execRrf,
      execSubwf, execSwapf, execXorwf, execBcf, execBsf]
    exact byteOriented_elsewhere s prog n _ _ _
  | clrf | movwf => exact fileWrite_elsewhere s prog n _ _
  | decfsz | incfsz =>
    simp only [exec, execDecfsz, execIncfsz]
    exact skipIfZero_elsewhere s prog n _ _ _ _
  | btfsc | btfss =>
    simp only [exec, execBtfsc, execBtfss]
    exact bitTest_elsewhere s prog n _ _
  | clrw | addlw | andlw | iorlw | movlw | sublw | xorlw => exact literal_elsewhere s prog n _
  | nop => exact congrArg _ (s.elsewhere_advance prog n)
  | goto k => exact congrArg _ (s.elsewhere_jump prog n (s.pageTarget k))
  | clrwdt => exact congrArg _ (State.elsewhere_advance (s.clearWatchdog.setTimePower true true) prog n)
  | sleep =>
    exact congrArg _
      (State.elsewhere_advance { s.clearWatchdog.setTimePower true false with asleep := true } prog n)
  | option => exact congrArg _ (State.elsewhere_advance (s.writeOption s.w) prog n)
  | tris f =>
    simp only [exec, execTris]
    cases trisPort f with
    | none => rfl
    | some p => exact congrArg _ (State.elsewhere_advance (s.writeTris p s.w) prog n)
  | call k => exact exec_call_elsewhere s prog n k
  | ret => obtain ⟨hret, -, -⟩ := exec_returns_elsewhere s prog n 0#8; exact hret
  | retlw k => obtain ⟨-, hretlw, -⟩ := exec_returns_elsewhere s prog n k; exact hretlw
  | retfie => obtain ⟨-, -, hretfie⟩ := exec_returns_elsewhere s prog n 0#8; exact hretfie

end

/-- Settles O52: the state of the statement is `State.elsewhere`, and execution commutes with it. -/
theorem execReadsNeitherProgramNorTime : Obligations.ExecReadsNeitherProgramNorTime := by
  intro i s prog n
  exact ⟨fun _ h => (exec_elsewhere s prog n i).trans (congrArg (resultElsewhere prog n) h),
    fun _ h => (exec_elsewhere s prog n i).trans (congrArg (resultElsewhere prog n) h)⟩

/-! ### Writes to TMR0 -/

/-- What assigns the prescaler is in OPTION and the parameters, which no flag update writes. -/
theorem State.setFlags_prescalerToTimer0 (s : State) (u : FlagUpdate) :
    (s.setFlags u).prescalerToTimer0 = s.prescalerToTimer0 := by
  cases u <;> rfl

/-- 20_memory.md R53, on the delivery of a result. -/
theorem State.toDest_tmr0_prescaler (s : State) (out : Computed) :
    (s.toDest .tmr0 .f out).prescaler = if s.prescalerToTimer0 then 0 else s.prescaler := by
  simp [State.setFlags_prescalerToTimer0]

theorem destFile_eq_some {d : Dest} {f g : FileField} (h : destFile d f = some g) : d = .f ∧ f = g := by
  cases d with
  | w => cases h
  | f => exact ⟨rfl, Option.some.inj h⟩

theorem destFile_eq_none {d : Dest} {f : FileField} (h : destFile d f = none) : d = .w := by
  cases d with
  | w => rfl
  | f => cases h

/-- C15 (log 31): every instruction whose destination is TMR0. -/
theorem ExecEffect.prescaler_of_writesLoc_tmr0 {i : Instr} {s t : State} (h : ExecEffect i s t)
    (hw : WritesLoc i s .tmr0) : t.prescaler = if s.prescalerToTimer0 then 0 else s.prescaler := by
  obtain ⟨g, hg, hloc⟩ := hw
  cases h with
  | deliver hea hdest | deliverSkip hea _ hdest =>
    obtain ⟨rfl, rfl⟩ := destFile_eq_some (hdest.symm.trans hg)
    obtain rfl := Except.ok.inj (hea.symm.trans hloc)
    simpa using s.toDest_tmr0_prescaler _
  | skip hdest | literal hdest => cases hdest.symm.trans hg
  | nop | goto | call | ret | retlw | retfie | clrwdt | sleep | option | tris => cases hg

/-- An instruction with a file operand that is not its destination writes no device register. -/
theorem ExecEffect.keeps_tmr0_prescaler_events {i : Instr} {s t : State} {f : FileField} (h : ExecEffect i s t)
    (hf : fileOperand i = some f) (hdest : fileDest i = none) :
    t.tmr0 = s.tmr0 ∧ t.prescaler = s.prescaler ∧ t.events = s.events := by
  cases h with
  | deliver _ hd | deliverSkip _ _ hd =>
    obtain rfl := destFile_eq_none (hd.symm.trans hdest)
    simp
  | skip | literal => simp
  | nop | goto | call | ret | retlw | retfie | clrwdt | sleep | option | tris => cases hf

/-- Settles O53: TMR0 is not the program counter, so that the instruction completes; its effect is a delivery to TMR0
or writes no device register. -/
theorem writingTmr0ClearsThePrescaler : Obligations.WritingTmr0ClearsThePrescaler := by
  intro i s f hf hea
  obtain ⟨t, ht⟩ | ⟨hpcl, -⟩ := exec_of_ea_ok hf hea
  · have heffect := exec_effect ht
    exact ⟨t, ht, fun hdest => heffect.prescaler_of_writesLoc_tmr0 ⟨f, hdest, hea⟩,
      heffect.keeps_tmr0_prescaler_events hf⟩
  · cases hpcl

/-! ### The map of profile P16 -/

section
variable {cfg : Config} {a : Nat}

theorem isStorage_of_common {f : Nat} (hfirst : 0x20 ≤ f) (hlast : f ≤ 0x4F) : isStorage cfg f = true := by
  simp [isStorage, hfirst, hlast]

/-- 10_state.md R42: outside 0x20 to 0x4F the device description alone says what is plain storage. -/
theorem isStorage_iff_listed {f : Nat} (h : f < 0x20 ∨ 0x4F < f) :
    isStorage cfg f = true ↔ ∃ range ∈ cfg.storage, range.1 ≤ f ∧ f ≤ range.2 := by
  have hcommon : ¬(0x20 ≤ f ∧ f ≤ 0x4F) := by omega
  simp only [isStorage, Bool.or_eq_true, Bool.and_eq_true, decide_eq_true_eq, hcommon, false_or, List.any_eq_true]

theorem isStorage_eq_false_of_unlisted {f : Nat} (h : f < 0x20 ∨ 0x4F < f)
    (hnone : ∀ range ∈ cfg.storage, f < range.1 ∨ range.2 < f) : isStorage cfg f = false := by
  rw [← Bool.not_eq_true, isStorage_iff_listed h]
  rintro ⟨range, hrange, hfirst, hlast⟩
  have := hnone range hrange
  omega

/-- At a data address that the part reaches, having four banks or the address lying below bank 2, the test of `p16Loc`
for two banks fails (log 11). -/
theorem reached_guard (h : cfg.fourBanks = true ∨ a < 256) :
    (!cfg.fourBanks && decide (256 ≤ a)) = false := by
  rcases h with h | h <;> simp [h]

theorem p16Loc_above_two_banks (h : cfg.fourBanks = false) (ha : 256 ≤ a) :
    p16Loc cfg a = .error (.unmappedFile a) := by
  simp [p16Loc, h, ha]

theorem portPair_portLoc (p : Port) {n : Nat} (hn : n < 128) :
    PortPair (portExists cfg p) n p a (portLoc cfg p a) := by
  unfold PortPair portLoc
  refine ⟨?_, ?_, ?_, ?_⟩
  · rintro h rfl
    simp [h, Nat.div_eq_of_lt hn]
  · rintro h rfl
    have hbank : (128 + n) / 128 = 1 := by omega
    simp [h, hbank]
  · rintro h (rfl | rfl)
    · have hbank : (256 + n) / 128 = 2 := by omega
      simp [h, hbank]
    · have hbank : (384 + n) / 128 = 3 := by omega
      simp [h, hbank]
  · rintro h -
    simp [h]

/-- A port's pair of addresses is one file address in the four banks. -/
theorem portPair_of_eq {p : Port} {n : Nat} (hn : n < 128) {l : Except Fault FileLoc}
    (hl : a % 128 = n → l = portLoc cfg p a) : PortPair (portExists cfg p) n p a l := by
  by_cases ha : a % 128 = n
  · rw [hl ha]
    exact portPair_portLoc p hn
  · refine ⟨?_, ?_, ?_, ?_⟩ <;> intro _ haddr <;> omega

theorem p16Loc_tmr0 (ha : a = 0x01) : p16Loc cfg a = .ok .tmr0 := by
  subst ha
  simp [p16Loc]

theorem p16Loc_option (ha : a = 0x81) : p16Loc cfg a = .ok .option := by
  subst ha
  simp [p16Loc]

/-- DESIGN CHOICE: banks 2 and 3 have neither (log 11). -/
theorem p16Loc_beyond_tmr0_option (ha : a = 0x101 ∨ a = 0x181) : p16Loc cfg a = .error (.unmappedFile a) := by
  rcases ha with rfl | rfl <;> simp [p16Loc]

variable (h : cfg.fourBanks = true ∨ a < 256)
include h

theorem p16Loc_null (ha : a % 128 = 0x00) : p16Loc cfg a = .ok .null := by simp [p16Loc, reached_guard h, ha]
theorem p16Loc_pcl (ha : a % 128 = 0x02) : p16Loc cfg a = .ok .pcl := by simp [p16Loc, reached_guard h, ha]
theorem p16Loc_status (ha : a % 128 = 0x03) : p16Loc cfg a = .ok .status := by simp [p16Loc, reached_guard h, ha]
theorem p16Loc_fsr (ha : a % 128 = 0x04) : p16Loc cfg a = .ok .fsr := by simp [p16Loc, reached_guard h, ha]
theorem p16Loc_pclath (ha : a % 128 = 0x0A) : p16Loc cfg a = .ok .pclath := by simp [p16Loc, reached_guard h, ha]
theorem p16Loc_intcon (ha : a % 128 = 0x0B) : p16Loc cfg a = .ok .intcon := by simp [p16Loc, reached_guard h, ha]

theorem p16Loc_portA (ha : a % 128 = 0x05) : p16Loc cfg a = portLoc cfg .a a := by
  simp [p16Loc, reached_guard h, ha]

theorem p16Loc_portB (ha : a % 128 = 0x06) : p16Loc cfg a = portLoc cfg .b a := by
  simp [p16Loc, reached_guard h, ha]

theorem p16Loc_portC (ha : a % 128 = 0x07) : p16Loc cfg a = portLoc cfg .c a := by
  simp [p16Loc, reached_guard h, ha]

/-- At an address of no register, plain storage or nothing. -/
theorem p16Loc_of_no_register (ha : a % 128 = 0x08 ∨ a % 128 = 0x09 ∨ 0x0C ≤ a % 128) :
    p16Loc cfg a = if isStorage cfg (a % 128) then .ok (.plain a) else .error (.unmappedFile a) := by
  rw [p16Loc, if_neg (by simp [reached_guard h])]
  split
  case h_11 => rfl
  all_goals omega

/-- 10_state.md R42, at every data address the part reaches. -/
theorem p16Map_p16Loc : P16Map cfg a (p16Loc cfg a) := by
  refine ⟨p16Loc_null h, p16Loc_tmr0, p16Loc_option, p16Loc_beyond_tmr0_option, p16Loc_pcl h, p16Loc_status h,
    p16Loc_fsr h, portPair_of_eq (p := .a) (by decide) (p16Loc_portA h),
    portPair_of_eq (p := .b) (by decide) (p16Loc_portB h), portPair_of_eq (p := .c) (by decide) (p16Loc_portC h),
    p16Loc_pclath h, p16Loc_intcon h, fun hfirst hlast => ?common,
    fun ha => ⟨fun hlisted => ?listed, fun hnone => ?unlisted⟩⟩
  case common => rw [p16Loc_of_no_register h (by omega), isStorage_of_common hfirst hlast, if_pos rfl]
  case listed =>
    rw [p16Loc_of_no_register h (by omega), (isStorage_iff_listed (by omega)).mpr hlisted, if_pos rfl]
  case unlisted =>
    rw [p16Loc_of_no_register h (by omega), isStorage_eq_false_of_unlisted (by omega) hnone, if_neg Bool.false_ne_true]

end

/-! ### The data address of an access -/

theorem toNat_ofBool_append {w : Nat} (b : Bool) (x : BitVec w) :
    (BitVec.ofBool b ++ x).toNat = b.toNat * 2 ^ w + x.toNat := by
  rw [BitVec.toNat_append, ← Nat.shiftLeft_add_eq_or_of_lt x.isLt, Nat.shiftLeft_eq, BitVec.toNat_ofBool]

/-- `RP1 : RP0 : f` as a number; a part with two banks ignores RP1. -/
theorem State.directAddress_eq (s : State) (f : FileField) :
    s.directAddress f = (s.cfg.fourBanks && s.rp1).toNat * 256 + s.rp0.toNat * 128 + f.toNat := by
  rw [State.directAddress, BitVec.append_assoc, BitVec.toNat_cast, toNat_ofBool_append, toNat_ofBool_append,
    Nat.add_assoc]
  rfl

/-- `IRP : FSR` as a number. -/
theorem State.indirectAddress_eq (s : State) : s.indirectAddress = s.irp.toNat * 256 + s.fsr.toNat :=
  toNat_ofBool_append s.irp s.fsr

/-- A direct access reaches banks 2 and 3 on a part that has them only. -/
theorem State.directAddress_reached (s : State) (f : FileField) :
    s.cfg.fourBanks = true ∨ s.directAddress f < 256 := by
  rw [State.directAddress_eq]
  cases s.cfg.fourBanks with
  | true => exact .inl rfl
  | false =>
    have hbank := s.rp0.toNat_le
    have hf := f.isLt
    simp only [Bool.false_and, Bool.toNat_false]
    omega

theorem State.indirectAddress_reached {s : State} (h : s.cfg.fourBanks = true ∨ s.irp = false) :
    s.cfg.fourBanks = true ∨ s.indirectAddress < 256 := by
  refine h.imp_right fun hirp => ?_
  rw [State.indirectAddress_eq, hirp]
  simpa using s.fsr.isLt

/-! ### The map of another profile -/

theorem locate_of_no_row {rows : List MapRow} {a : Nat} (h : ∀ row ∈ rows, a < row.first ∨ row.last < a) :
    locate rows a = .error (.unmappedFile a) := by
  rcases locate_cases rows a with ⟨row, hrow, hfirst, hlast, -⟩ | ⟨-, e⟩
  · have := h row hrow
    omega
  · exact e

/-- Rows that do not hold the address are passed over. -/
theorem locate_append {before rows : List MapRow} {a : Nat} (h : ∀ row ∈ before, a < row.first ∨ row.last < a) :
    locate (before ++ rows) a = locate rows a := by
  induction before with
  | nil => rfl
  | cons row rest ih =>
    obtain ⟨hrow, hrest⟩ := List.forall_mem_cons.mp h
    rw [List.cons_append, locate, if_neg (by omega), ih hrest]

theorem locationIn_of_plain {row : MapRow} {b : Nat} (h : row.loc = .plain b) (a : Nat) :
    locationIn row a = .plain (b + (a - row.first)) := by
  simp [locationIn, h]

theorem locationIn_of_special {row : MapRow} (h : ∀ b, row.loc ≠ .plain b) (a : Nat) : locationIn row a = row.loc := by
  unfold locationIn
  split
  · exact absurd ‹_› (h _)
  · rfl

theorem tableMap_locate (map : RegisterMap) (a : Nat) : TableMap map a (locate map.rows a) := by
  refine ⟨locate_of_no_row, fun before row after hrows hbefore hfirst hlast => ?_⟩
  have hrow : locate map.rows a = .ok (locationIn row a) := by
    rw [hrows, locate_append hbefore, locate, if_pos ⟨hfirst, hlast⟩]
  rw [hrow]
  exact ⟨fun b hb => by rw [locationIn_of_plain hb], fun hspecial => by rw [locationIn_of_special hspecial]⟩

theorem State.ea_tableMap {s : State} {f : FileField} {map : RegisterMap} (h : s.cfg.profile = .table map) :
    TableMap map (s.mapAddress map f) (s.ea f) := by
  rw [s.ea_of_table f h]
  exact tableMap_locate map _

theorem State.mapAddress_of_indf {s : State} {f : FileField} {map : RegisterMap} (h : map.indf = some f) :
    s.mapAddress map f = s.bankNumber map.indirect * 256 + s.fsr.toNat := by
  simp [State.mapAddress, h]

theorem State.mapAddress_of_not_indf {s : State} {f : FileField} {map : RegisterMap} (h : map.indf ≠ some f) :
    s.mapAddress map f = s.bankNumber map.direct * 128 + f.toNat := by
  simp [State.mapAddress, h]

/-- 20_memory.md R47: without banks and INDF the data address is the file field. -/
theorem State.mapAddress_of_unbanked {s : State} {f : FileField} {map : RegisterMap} (hdirect : map.direct = [])
    (hindf : map.indf = none) : s.mapAddress map f = f.toNat := by
  simp [State.mapAddress, hindf, hdirect, State.bankNumber]

/-- The map of P16 at the address of a direct access. -/
theorem State.ea_p16Map_direct {s : State} {f : FileField} (h : s.cfg.profile = .p16) (hf : f ≠ 0#7) :
    P16Map s.cfg (s.directAddress f) (s.ea f) := by
  rw [s.ea_of_direct f h hf]
  exact p16Map_p16Loc (s.directAddress_reached f)

/-- Settles O54: each profile's map holds at the data address, which is then written out as a number. -/
theorem fileAddressesDesignateTheirLocations : Obligations.FileAddressesDesignateTheirLocations := by
  intro s f
  refine ⟨s.ea_of_no_profile f, fun hp hbanks hf => ?fourBanks, fun hp hbanks hf => ?twoBanks,
    fun hp hreach => ?indirect, fun hp hbanks hirp => ?indirectAbove,
    fun map hp => ⟨fun hindf => ?tableDirect, fun hindf => ?tableIndirect, fun hdirect hindf => ?unbanked⟩⟩
  case fourBanks => simpa [State.directAddress_eq, hbanks] using State.ea_p16Map_direct hp hf
  case twoBanks => simpa [State.directAddress_eq, hbanks] using State.ea_p16Map_direct hp hf
  case indirect =>
    rw [s.ea_of_indirect hp, ← State.indirectAddress_eq]
    exact p16Map_p16Loc (State.indirectAddress_reached hreach)
  case indirectAbove =>
    have haddr : s.indirectAddress = 256 + s.fsr.toNat := by simp [State.indirectAddress_eq, hirp]
    rw [s.ea_of_indirect hp, haddr]
    exact p16Loc_above_two_banks hbanks (Nat.le_add_right _ _)
  case tableDirect => exact State.mapAddress_of_not_indf hindf ▸ State.ea_tableMap hp
  case tableIndirect => exact State.mapAddress_of_indf hindf ▸ State.ea_tableMap hp
  case unbanked => exact State.mapAddress_of_unbanked (s := s) hdirect hindf ▸ State.ea_tableMap hp

/-! ### What MOVF reads -/

theorem isZero_iff (r : Byte) : isZero r = true ↔ r = 0#8 := by simp [isZero]

/-- 40_byte_oriented.md R113, to W. -/
theorem exec_movf_toW {s : State} {f : FileField} {l : FileLoc} (hea : s.ea f = .ok l) :
    exec (.movf f .w) s = .next (({ s with z := isZero (s.readLoc l) } : State).setW (s.readLoc l)).advance :=
  byteOriented_of_ok .w withZero hea

/-- 40_byte_oriented.md R114, onto plain storage. -/
theorem exec_movwf_of_plain {s : State} {f : FileField} {a : Nat} (hea : s.ea f = .ok (.plain a)) :
    exec (.movwf f) s = .next ({ s with data := Memory.write s.data a s.w } : State).advance :=
  fileWrite_of_ok (withoutFlags s.w) hea

section
variable {s : State}

theorem State.plainByte_of_read {a : Nat} {v : Byte} (h : Memory.read s.data a = some v) : s.plainByte a = v := by
  simp [State.plainByte, h]

theorem State.plainByte_write_of_ne {a b : Nat} (h : b ≠ a) (v : Byte) :
    ({ s with data := Memory.write s.data a v } : State).plainByte b = s.plainByte b := by
  simp [State.plainByte, Memory.read_write_of_ne s.data a b v h]

theorem State.pinByte_of_pins {p : Port} {v : Byte} (h : s.env.pins p = some v) : s.pinByte p = v := by
  simp [State.pinByte, h]

theorem State.timer0Byte_of_env {v : Byte} (h : s.env.timer0 = some v) : s.timer0Byte = v := by
  simp [State.timer0Byte, h]

theorem State.readLoc_pclath_toNat : (s.readLoc .pclath).toNat = s.pclath.toNat :=
  BitVec.toNat_setWidth_of_le (by decide)

/-- 10_state.md R33, R42: GIE above the enable and flag bits. -/
theorem State.intconByte_getLsbD (n : Nat) :
    s.intconByte.getLsbD n = if n < 7 then s.intcon.getLsbD n else (BitVec.ofBool s.gie).getLsbD (n - 7) := by
  rw [State.intconByte, BitVec.getLsbD_cast, BitVec.getLsbD_append]

theorem getLsbD_placeBit_iff (place : Option (BitVec 3)) (b : Bool) (n : BitVec 3) :
    (placeBit place b).getLsbD n.toNat = true ↔ place = some n ∧ b = true := by
  cases place with
  | none => simp [placeBit]
  | some m =>
    rw [getLsbD_placeBit m b n.isLt, Bool.and_eq_true, decide_eq_true_eq, Option.some.injEq, BitVec.toNat_inj,
      eq_comm (a := n), and_comm]

/-- 10_state.md R42, in every map: a bit of STATUS is 1 when a bit that the map has there is (log 34). -/
theorem State.statusByte_getLsbD_iff (n : BitVec 3) :
    s.statusByte.getLsbD n.toNat = true ↔
      ((statusLayout s.cfg).c = some n ∧ s.c = true) ∨ ((statusLayout s.cfg).dc = some n ∧ s.dc = true) ∨
        ((statusLayout s.cfg).z = some n ∧ s.z = true) ∨
        ((statusLayout s.cfg).powerDown = some n ∧ s.powerDown = true) ∨
        ((statusLayout s.cfg).timeOut = some n ∧ s.timeOut = true) ∨
        ((statusLayout s.cfg).rp0 = some n ∧ s.rp0 = true) ∨ ((statusLayout s.cfg).rp1 = some n ∧ s.rp1 = true) ∨
        ((statusLayout s.cfg).irp = some n ∧ s.irp = true) := by
  simp only [State.statusByte, BitVec.getLsbD_or, Bool.or_eq_true, getLsbD_placeBit_iff, or_assoc]

theorem statusLayout_of_table {cfg : Config} {map : RegisterMap} (h : cfg.profile = .table map) :
    statusLayout cfg = map.status := by
  simp [statusLayout, h]

end

/-- Settles O55: MOVWF changes one cell of data memory, and so no designation; what MOVF reads is `State.readLoc`, whose
value is known for each kind of location. -/
theorem movfReadsBackWhatMovwfStored : Obligations.MovfReadsBackWhatMovwfStored := by
  intro s f
  refine ⟨fun a hea => ?stored, fun l hea => ?read⟩
  case stored =>
    have hea' : ({ s with data := Memory.write s.data a s.w } : State).advance.ea f = .ok (.plain a) := hea
    have hread : ({ s with data := Memory.write s.data a s.w } : State).advance.readLoc (.plain a) = s.w :=
      State.plainByte_of_read (Memory.read_write_same s.data a s.w)
    refine ⟨_, _, exec_movwf_of_plain hea, exec_movf_toW hea', hread, ?_,
      fun b hb => State.plainByte_write_of_ne hb s.w⟩
    rw [hread]
    exact isZero_iff s.w
  case read =>
    refine ⟨_, exec_movf_toW hea, isZero_iff _, ?plain, ?null, ?fsr, ?pclath, ?pcl, ?option, ?tris, ?tmr0, ?port,
      ?intcon, ?statusP16, ?statusTable⟩
    case plain => rintro a v rfl hread; exact State.plainByte_of_read hread
    case null | fsr | option => rintro rfl; rfl
    case pclath => rintro rfl; exact State.readLoc_pclath_toNat
    case pcl => rintro rfl; exact s.pclByte_toNat
    case tris => rintro p rfl; rfl
    case tmr0 => rintro v rfl henv; exact State.timer0Byte_of_env henv
    case port => rintro p v rfl hpins; exact State.pinByte_of_pins hpins
    case intcon =>
      rintro rfl
      refine ⟨(State.intconByte_getLsbD 7).trans ?_, fun n hn => (State.intconByte_getLsbD n).trans (if_pos hn)⟩
      simp
    case statusP16 =>
      rintro rfl hp
      have hbit := fun n (hn : n < 8) => State.statusByte_getLsbD_of_p16 hp hn
      exact ⟨hbit 0 (by decide), hbit 1 (by decide), hbit 2 (by decide), hbit 3 (by decide), hbit 4 (by decide),
        hbit 5 (by decide), hbit 6 (by decide), hbit 7 (by decide)⟩
    case statusTable =>
      rintro map n rfl hp
      exact statusLayout_of_table hp ▸ State.statusByte_getLsbD_iff n

/-! ### Read-modify-write of a port -/

section
variable {s : State} {f : FileField} {p : Port} {pins : Byte} (hea : s.ea f = .ok (.port p))
  (hpins : s.env.pins p = some pins)
include hea hpins

theorem exec_bsf_of_port (b : BitVec 3) :
    exec (.bsf f b) s = .next (s.writeLoc (.port p) false (setBit pins b)).advance := by
  rw [← State.pinByte_of_pins hpins]
  exact byteOriented_of_ok .f (fun v => withoutFlags (setBit v b)) hea

theorem exec_movf_toFile_of_port :
    exec (.movf f .f) s = .next (({ s with z := isZero pins } : State).writeLoc (.port p) true pins).advance := by
  rw [← State.pinByte_of_pins hpins]
  exact byteOriented_of_ok .f withZero hea

end

/-- Settles O56: both read the pins, and the write puts the whole byte into the latch. -/
theorem portReadModifyWriteUsesThePins : Obligations.PortReadModifyWriteUsesThePins := by
  intro s f b p pins hea hpins
  refine ⟨⟨_, exec_bsf_of_port hea hpins b, fun n _ => ?_⟩, ⟨_, exec_movf_toFile_of_port hea hpins, ?_, rfl⟩⟩
  · rw [State.advance_latches, State.writeLoc_port, PortRegs.get_set_same, getLsbD_setBit]
  · rw [State.advance_latches, State.writeLoc_port, PortRegs.get_set_same]

end Sys2Proof.Machine

/-! PROOFS. The encoding: an encoded word decodes to its instruction, every word decodes as its row of the tables says,
don't-care bits do not matter, and the execution of an unassigned word stops the machine. -/

namespace Sys2Proof

open Machine (Unassigned)

/-! ### The fields of an encoded word -/

/-- A field above the low part of a word is a field of the high part. -/
theorem field_append_high (lo len : Nat) {m n : Nat} (hw : m + n = 14) (x : BitVec m) (y : BitVec n) (h : n ≤ lo) :
    field ((x ++ y).cast hw) lo len = x.extractLsb' (lo - n) len := by
  rw [field, BitVec.extractLsb'_cast, BitVec.extractLsb'_append_eq_of_le h]

/-- The low part of a word is its low field. -/
theorem field_append_low {m n : Nat} (hw : m + n = 14) (x : BitVec m) (y : BitVec n) :
    field ((x ++ y).cast hw) 0 n = y := by
  rw [field, BitVec.extractLsb'_cast, BitVec.extractLsb'_append_eq_right]

section
variable (opcode : BitVec 6) (d : Dest) (f : FileField)

@[simp] theorem group_encodeB : field (encodeB opcode d f) 12 2 = opcode.extractLsb' 4 2 :=
  (field_append_high 12 2 rfl _ f (by decide)).trans (BitVec.extractLsb'_append_eq_of_le (by decide))

@[simp] theorem row_encodeB : field (encodeB opcode d f) 8 4 = opcode.extractLsb' 0 4 :=
  (field_append_high 8 4 rfl _ f (by decide)).trans (BitVec.extractLsb'_append_eq_of_le (by decide))

@[simp] theorem getElem_encodeB : (encodeB opcode d f)[7] = decide (d = .f) := by
  rw [← BitVec.getLsbD_eq_getElem, encodeB, BitVec.getLsbD_cast, BitVec.getLsbD_append, BitVec.getLsbD_append]
  cases d <;> rfl

@[simp] theorem fieldF_encodeB : fieldF (encodeB opcode d f) = f := field_append_low rfl _ f

@[simp] theorem fieldD_encodeB : fieldD (encodeB opcode d f) = d := by cases d <;> simp [fieldD]

end

section
variable (opcode : BitVec 4) (b : BitVec 3) (f : FileField)

@[simp] theorem group_encodeT : field (encodeT opcode b f) 12 2 = opcode.extractLsb' 2 2 :=
  (field_append_high 12 2 rfl _ f (by decide)).trans (BitVec.extractLsb'_append_eq_of_le (by decide))

@[simp] theorem row_encodeT : field (encodeT opcode b f) 10 2 = opcode.extractLsb' 0 2 :=
  (field_append_high 10 2 rfl _ f (by decide)).trans (BitVec.extractLsb'_append_eq_of_le (by decide))

@[simp] theorem fieldB_encodeT : fieldB (encodeT opcode b f) = b :=
  (field_append_high 7 3 rfl _ f (by decide)).trans BitVec.extractLsb'_append_eq_right

@[simp] theorem fieldF_encodeT : fieldF (encodeT opcode b f) = f := field_append_low rfl _ f

end

section
variable (opcode : BitVec 6) (k : Byte)

@[simp] theorem group_encodeL : field (encodeL opcode k) 12 2 = opcode.extractLsb' 4 2 :=
  field_append_high 12 2 rfl _ k (by decide)

@[simp] theorem row_encodeL : field (encodeL opcode k) 8 4 = opcode.extractLsb' 0 4 :=
  field_append_high 8 4 rfl _ k (by decide)

@[simp] theorem fieldK8_encodeL : fieldK8 (encodeL opcode k) = k := field_append_low rfl _ k

end

section
variable (opcode : BitVec 3) (k : BitVec 11)

@[simp] theorem group_encodeJ : field (encodeJ opcode k) 12 2 = opcode.extractLsb' 1 2 :=
  field_append_high 12 2 rfl _ k (by decide)

@[simp] theorem getElem_encodeJ : (encodeJ opcode k)[11] = opcode[0] := by
  rw [← BitVec.getLsbD_eq_getElem, encodeJ, BitVec.getLsbD_cast, BitVec.getLsbD_append]
  rfl

@[simp] theorem fieldK11_encodeJ : fieldK11 (encodeJ opcode k) = k := field_append_low rfl _ k

end

/-- Settles O1, format by format: an encoded word's fields are its opcode and its operands. -/
theorem everyWellFormedInstructionDecodesFromItsWord : Obligations.EveryWellFormedInstructionDecodesFromItsWord := by
  intro i hwf
  cases i with
  | addwf f d | andwf f d | comf f d | decf f d | decfsz f d | incf f d | incfsz f d | iorwf f d | movf f d
  | rlf f d | rrf f d | subwf f d | swapf f d | xorwf f d | clrf f | movwf f =>
    simp [encode, decode, decodeByteOriented]
  | bcf f b | bsf f b | btfsc f b | btfss f b => simp [encode, decode, decodeBitOriented]
  | call k | goto k => simp [encode, decode, decodeJump]
  | addlw k | andlw k | iorlw k | movlw k | retlw k | sublw k | xorlw k => simp [encode, decode, decodeLiteral]
  | clrw | nop | clrwdt | retfie | ret | sleep | option => rfl
  | tris f => revert f; decide
/-! ### The fields of a word, as numbers -/

section
variable (iw : InstrWord)

theorem field_toNat (lo len : Nat) : (field iw lo len).toNat = iw.toNat / 2 ^ lo % 2 ^ len := by
  rw [field, BitVec.extractLsb'_toNat, Nat.shiftRight_eq_div_pow]

theorem getLsbD_iff_div (n : Nat) : iw.getLsbD n = true ↔ iw.toNat / 2 ^ n % 2 = 1 := by
  rw [← BitVec.testBit_toNat, Nat.testBit_eq_decide_div_mod_eq, decide_eq_true_eq]

/-- The bits from `lo` up: the mask of a row, but for NOP's (R76 to R80). -/
def highMask (lo : Nat) : InstrWord := BitVec.allOnes 14 <<< lo

theorem and_highMask_toNat (lo : Nat) : (iw &&& highMask lo).toNat = iw.toNat / 2 ^ lo * 2 ^ lo := by
  rw [highMask, ← BitVec.shiftLeft_ushiftRight, BitVec.toNat_shiftLeft, BitVec.toNat_ushiftRight,
    Nat.shiftRight_eq_div_pow, Nat.shiftLeft_eq,
    Nat.mod_eq_of_lt (lt_of_le_of_lt (Nat.div_mul_le_self _ _) iw.isLt)]

theorem and_highMask_eq_iff (lo row : Nat) (h : row * 2 ^ lo < 2 ^ 14) :
    iw &&& highMask lo = BitVec.ofNat 14 (row * 2 ^ lo) ↔ iw.toNat / 2 ^ lo = row := by
  rw [← BitVec.toNat_inj, and_highMask_toNat, BitVec.toNat_ofNat, Nat.mod_eq_of_lt h]
  exact Nat.mul_left_inj (by positivity)

theorem eq_ofNat_of_toNat {n : Nat} (h : iw.toNat = n) : iw = BitVec.ofNat 14 n := by
  rw [← h, BitVec.ofNat_toNat, BitVec.setWidth_eq]

end

/-! ### What the decoder answers -/

/-- The word is of the instruction's row of the tables, and the instruction's operands are in range. -/
def InRow (iw : InstrWord) (i : Instr) : Prop := i.wf = true ∧ iw &&& i.maskMatch.1 = i.maskMatch.2

/-- What the tables of 30_encoding.md R76 to R81 say of a decoder's answer for a word. -/
def AsTables (iw : InstrWord) : Except Undecoded Instr → Prop
  | .ok i => InRow iw i ∧ ¬Unassigned iw
  | .error e => e = .unassigned iw ∧ Unassigned iw

section
variable {iw : InstrWord}

/-- The unassigned words lie in two places of the tables (R77, R80). -/
theorem not_unassigned_of_row (hlow : iw.toNat / 128 ≠ 0) (hliteral : iw.toNat / 256 ≠ 0x3B) : ¬Unassigned iw := by
  unfold Unassigned
  omega

/-- A row whose mask is the bits from `lo` up. -/
theorem asTables_of_row {i : Instr} (lo row : Nat)
    (hrow : i.maskMatch = (highMask lo, BitVec.ofNat 14 (row * 2 ^ lo))) (hwf : i.wf = true)
    (hassigned : ¬Unassigned iw) (hiw : iw.toNat / 2 ^ lo = row) : AsTables iw (.ok i) := by
  have hlt : row * 2 ^ lo < 2 ^ 14 := hiw ▸ lt_of_le_of_lt (Nat.div_mul_le_self _ _) iw.isLt
  refine ⟨⟨hwf, ?_⟩, hassigned⟩
  rw [hrow]
  exact (and_highMask_eq_iff iw lo row hlt).mpr hiw

/-- R77: each answer but the last is for one word. -/
theorem decodeNoOperand_asTables (h : iw.toNat < 128) : AsTables iw (decodeNoOperand iw) := by
  have hfield : (field iw 0 7).toNat = iw.toNat := by rw [field_toNat]; omega
  unfold decodeNoOperand
  rw [hfield]
  split
  case h_13 =>
    refine ⟨rfl, ?_⟩
    simp only [imp_false] at *
    unfold Unassigned
    omega
  all_goals
    rename_i hiw
    obtain rfl := eq_ofNat_of_toNat iw hiw
    refine ⟨⟨rfl, rfl⟩, ?_⟩
    unfold Unassigned
    decide

/-- Group `00` (R76); its sub-group with `iw[13:7]` all 0 is R77's. -/
theorem decodeByteOriented_asTables (h : iw.toNat / 4096 = 0) : AsTables iw (decodeByteOriented iw) := by
  have hrow : (field iw 8 4).toNat = iw.toNat / 256 := by rw [field_toNat]; omega
  unfold decodeByteOriented
  simp only [hrow, getLsbD_iff_div]
  split
  case h_1 hiw =>
    split
    · exact asTables_of_row 7 1 rfl rfl (not_unassigned_of_row (by omega) (by omega)) (by omega)
    · exact decodeNoOperand_asTables (by omega)
  case h_2 hiw =>
    have hassigned := not_unassigned_of_row (iw := iw) (by omega) (by omega)
    split
    · exact asTables_of_row 7 3 rfl rfl hassigned (by omega)
    · exact asTables_of_row 7 2 rfl rfl hassigned (by omega)
  case h_16 =>
    simp only [imp_false] at *
    exact asTables_of_row 8 15 rfl rfl (not_unassigned_of_row (by omega) (by omega)) (by omega)
  all_goals
    rename_i hiw
    exact asTables_of_row 8 _ rfl rfl (not_unassigned_of_row (by omega) (by omega)) hiw

/-- Group `01` (R78). -/
theorem decodeBitOriented_asTables (h : iw.toNat / 4096 = 1) : AsTables iw (.ok (decodeBitOriented iw)) := by
  have hrow : (field iw 10 2).toNat + 4 = iw.toNat / 1024 := by rw [field_toNat]; omega
  have hassigned := not_unassigned_of_row (iw := iw) (by omega) (by omega)
  unfold decodeBitOriented
  split
  · exact asTables_of_row 10 4 rfl rfl hassigned (by omega)
  · exact asTables_of_row 10 5 rfl rfl hassigned (by omega)
  · exact asTables_of_row 10 6 rfl rfl hassigned (by omega)
  · simp only [imp_false] at *
    exact asTables_of_row 10 7 rfl rfl hassigned (by omega)

/-- Group `10` (R79). -/
theorem decodeJump_asTables (h : iw.toNat / 4096 = 2) : AsTables iw (.ok (decodeJump iw)) := by
  have hassigned := not_unassigned_of_row (iw := iw) (by omega) (by omega)
  simp only [decodeJump, getLsbD_iff_div]
  split
  · exact asTables_of_row 11 5 rfl rfl hassigned (by omega)
  · exact asTables_of_row 11 4 rfl rfl hassigned (by omega)

/-- Group `11` (R80), where `iw[11:8] = 1011` is unassigned (R81). -/
theorem decodeLiteral_asTables (h : iw.toNat / 4096 = 3) : AsTables iw (decodeLiteral iw) := by
  have hrow : (field iw 8 4).toNat + 48 = iw.toNat / 256 := by rw [field_toNat]; omega
  have hassigned := fun hne => not_unassigned_of_row (iw := iw) (by omega) hne
  unfold decodeLiteral
  split
  case h_1 | h_2 | h_3 | h_4 => exact asTables_of_row 10 12 rfl rfl (hassigned (by omega)) (by omega)
  case h_5 | h_6 | h_7 | h_8 => exact asTables_of_row 10 13 rfl rfl (hassigned (by omega)) (by omega)
  case h_9 => exact asTables_of_row 8 56 rfl rfl (hassigned (by omega)) (by omega)
  case h_10 => exact asTables_of_row 8 57 rfl rfl (hassigned (by omega)) (by omega)
  case h_11 => exact asTables_of_row 8 58 rfl rfl (hassigned (by omega)) (by omega)
  case h_12 => exact ⟨rfl, by unfold Unassigned; omega⟩
  case h_13 | h_14 => exact asTables_of_row 9 30 rfl rfl (hassigned (by omega)) (by omega)
  case h_15 =>
    simp only [imp_false] at *
    exact asTables_of_row 9 31 rfl rfl (hassigned (by omega)) (by omega)

end

/-- The decoder's answer for every word is the one the tables give (R75). -/
theorem decode_asTables (iw : InstrWord) : AsTables iw (decode iw) := by
  have hiw := iw.isLt
  have hgroup : (field iw 12 2).toNat = iw.toNat / 4096 := by rw [field_toNat]; omega
  unfold decode
  rw [hgroup]
  split
  case h_1 h => exact decodeByteOriented_asTables h
  case h_2 h => exact decodeBitOriented_asTables h
  case h_3 h => exact decodeJump_asTables h
  case h_4 =>
    simp only [imp_false] at *
    exact decodeLiteral_asTables (by omega)

/-- Settles O2, from the decoder's agreement with the tables. -/
theorem decodedWordLiesInItsRow : Obligations.DecodedWordLiesInItsRow := by
  intro iw i hdecode
  have htables := decode_asTables iw
  rw [hdecode] at htables
  exact htables.1

theorem decode_of_unassigned {iw : InstrWord} (h : Unassigned iw) : decode iw = .error (.unassigned iw) := by
  have htables := decode_asTables iw
  cases hdecode : decode iw with
  | ok i => rw [hdecode] at htables; exact absurd h htables.2
  | error e => rw [hdecode] at htables; rw [htables.1]

theorem decode_of_not_unassigned {iw : InstrWord} (h : ¬Unassigned iw) : ∃ i, decode iw = .ok i := by
  have htables := decode_asTables iw
  cases hdecode : decode iw with
  | ok i => exact ⟨i, rfl⟩
  | error e => rw [hdecode] at htables; exact absurd htables.2 h

/-- Settles O3, from the decoder's agreement with the tables. -/
theorem undecodedExactlyOnTheUnassignedWords : Obligations.UndecodedExactlyOnTheUnassignedWords :=
  fun _ => ⟨decode_of_unassigned, decode_of_not_unassigned⟩

/-! ### Don't-care bits -/

section
variable {iw : InstrWord}

theorem decode_of_group_zero (h : iw.toNat / 4096 = 0) : decode iw = decodeByteOriented iw := by
  have hgroup : (field iw 12 2).toNat = 0 := by rw [field_toNat]; omega
  simp only [decode, hgroup]

theorem decode_of_group_three (h : iw.toNat / 4096 = 3) : decode iw = decodeLiteral iw := by
  have hgroup : (field iw 12 2).toNat = 3 := by rw [field_toNat]; omega
  simp only [decode, hgroup]

/-- R76: `00 0001 0xxx xxxx`. -/
theorem decode_clrw_of_row (h : iw.toNat / 2 ^ 7 = 2) : decode iw = .ok .clrw := by
  have hrow : (field iw 8 4).toNat = 1 := by rw [field_toNat]; omega
  have hbit : ¬iw.toNat / 2 ^ 7 % 2 = 1 := by omega
  rw [decode_of_group_zero (by omega)]
  simp only [decodeByteOriented, hrow, getLsbD_iff_div, if_neg hbit]

/-- R77: `00 0000 0xx0 0000`. -/
theorem decode_nop_of_row (hhigh : iw.toNat / 2 ^ 7 = 0) (hlow : iw.toNat % 2 ^ 5 = 0) : decode iw = .ok .nop := by
  have hrow : (field iw 8 4).toNat = 0 := by rw [field_toNat]; omega
  have hbit : ¬iw.toNat / 2 ^ 7 % 2 = 1 := by omega
  have hword : (field iw 0 7).toNat = 0x00 ∨ (field iw 0 7).toNat = 0x20 ∨ (field iw 0 7).toNat = 0x40 ∨
      (field iw 0 7).toNat = 0x60 := by rw [field_toNat]; omega
  rw [decode_of_group_zero (by omega)]
  simp only [decodeByteOriented, hrow, getLsbD_iff_div, if_neg hbit]
  obtain hword | hword | hword | hword := hword <;> simp only [decodeNoOperand, hword]

/-- R80: `11 00xx kkkk kkkk`. -/
theorem decode_movlw_of_row (h : iw.toNat / 2 ^ 10 = 12) : decode iw = .ok (.movlw (fieldK8 iw)) := by
  have hrow : (field iw 8 4).toNat = 0 ∨ (field iw 8 4).toNat = 1 ∨ (field iw 8 4).toNat = 2 ∨
      (field iw 8 4).toNat = 3 := by rw [field_toNat]; omega
  rw [decode_of_group_three (by omega)]
  obtain hrow | hrow | hrow | hrow := hrow <;> simp only [decodeLiteral, hrow]

/-- R80: `11 01xx kkkk kkkk`. -/
theorem decode_retlw_of_row (h : iw.toNat / 2 ^ 10 = 13) : decode iw = .ok (.retlw (fieldK8 iw)) := by
  have hrow : (field iw 8 4).toNat = 4 ∨ (field iw 8 4).toNat = 5 ∨ (field iw 8 4).toNat = 6 ∨
      (field iw 8 4).toNat = 7 := by rw [field_toNat]; omega
  rw [decode_of_group_three (by omega)]
  obtain hrow | hrow | hrow | hrow := hrow <;> simp only [decodeLiteral, hrow]

/-- R80: `11 111x kkkk kkkk`. -/
theorem decode_addlw_of_row (h : iw.toNat / 2 ^ 9 = 31) : decode iw = .ok (.addlw (fieldK8 iw)) := by
  have hrow : (field iw 8 4).toNat = 14 ∨ (field iw 8 4).toNat = 15 := by rw [field_toNat]; omega
  rw [decode_of_group_three (by omega)]
  obtain hrow | hrow := hrow <;> simp only [decodeLiteral, hrow]

/-- R80: `11 110x kkkk kkkk`. -/
theorem decode_sublw_of_row (h : iw.toNat / 2 ^ 9 = 30) : decode iw = .ok (.sublw (fieldK8 iw)) := by
  have hrow : (field iw 8 4).toNat = 12 ∨ (field iw 8 4).toNat = 13 := by rw [field_toNat]; omega
  rw [decode_of_group_three (by omega)]
  obtain hrow | hrow := hrow <;> simp only [decodeLiteral, hrow]

theorem and_eq_zero_of_subMask {mask sub : InstrWord} (h : iw &&& mask = 0#14) (hsub : mask &&& sub = sub) :
    iw &&& sub = 0#14 := by
  rw [← hsub, ← BitVec.and_assoc, h, BitVec.zero_and]

/-- NOP's mask is not of one piece: it leaves out `iw[6:5]`. -/
theorem nopMask_parts (h : iw &&& 0x3F9F#14 = 0#14) : iw.toNat / 2 ^ 7 = 0 ∧ iw.toNat % 2 ^ 5 = 0 := by
  have hhigh : iw &&& highMask 7 = 0#14 := and_eq_zero_of_subMask h (by decide)
  have hlow : iw &&& 0x001F#14 = 0#14 := and_eq_zero_of_subMask h (by decide)
  refine ⟨(and_highMask_eq_iff iw 7 0 (by decide)).mp hhigh, ?_⟩
  rw [← Nat.and_two_pow_sub_one_eq_mod]
  exact congrArg BitVec.toNat hlow

end

/-- Settles O4: a row's mask fixes the bits from some place up, and the decoder does not look below it. -/
theorem dontCareBitsDoNotMatter : Obligations.DontCareBitsDoNotMatter := by
  refine ⟨fun iw => ⟨fun h => ?clrw, fun h => ?nop, fun h => ?movlw, fun h => ?retlw, fun h => ?addlw,
    fun h => ?sublw⟩, rfl, rfl, fun k => ⟨?_, ?_, ?_, ?_⟩⟩
  case clrw => exact decode_clrw_of_row ((and_highMask_eq_iff iw 7 2 (by decide)).mp h)
  case nop =>
    obtain ⟨hhigh, hlow⟩ := nopMask_parts h
    exact decode_nop_of_row hhigh hlow
  case movlw => exact decode_movlw_of_row ((and_highMask_eq_iff iw 10 12 (by decide)).mp h)
  case retlw => exact decode_retlw_of_row ((and_highMask_eq_iff iw 10 13 (by decide)).mp h)
  case addlw => exact decode_addlw_of_row ((and_highMask_eq_iff iw 9 31 (by decide)).mp h)
  case sublw => exact decode_sublw_of_row ((and_highMask_eq_iff iw 9 30 (by decide)).mp h)
  · exact Laws.encodeL_pattern 0b110000#6 0b000011#6 k
  · exact Laws.encodeL_pattern 0b110100#6 0b000011#6 k
  · exact Laws.encodeL_pattern 0b111110#6 0b000001#6 k
  · exact Laws.encodeL_pattern 0b111100#6 0b000001#6 k

/-- Settles O5, by evaluation. -/
theorem wordsOfTheSpecDecodeAsItSays : Obligations.WordsOfTheSpecDecodeAsItSays :=
  ⟨rfl, rfl, rfl, rfl, rfl, rfl⟩

end Sys2Proof

namespace Sys2Proof.Machine

/-! ### Executing an unassigned word -/

section
variable {s : State}

theorem NoResetDue.arrive_quiet (h : NoResetDue s) :
    s.arrive.env.externalReset = false ∧ s.arrive.wdtTimesOut = false := by
  obtain ⟨hreset, hwdt⟩ := h
  refine ⟨hreset, ?_⟩
  rw [State.wdtTimesOut, Bool.and_eq_false_iff]
  exact hwdt

/-- 70_reset_and_hazards.md R219: an awake core with no event at the boundary executes. -/
theorem State.boundary_of_quiet (hawake : s.asleep = false) (hreset : NoResetDue s)
    (hint : s.gie = false ∨ s.arrive.intRequest = false) : s.boundary = .execute s.arrive := by
  obtain ⟨hexternal, hwdt⟩ := hreset.arrive_quiet
  refine State.choose_of_quiet hexternal hwdt hawake ?_
  rw [State.interruptDue, Bool.and_eq_false_iff]
  exact hint

theorem State.arrive_fetch : s.arrive.fetch = s.fetch := rfl

theorem State.fetchInstr_of_unassigned {iw : InstrWord} (hf : s.fetch = .ok iw) (h : Unassigned iw) :
    s.fetchInstr = .error (.unassignedOpcode s.pc iw) := by
  simp [State.fetchInstr, hf, decode_of_unassigned h]

theorem step_of_execute_error {u : State} {r : Fault} (hb : s.boundary = .execute u) (hi : u.fetchInstr = .error r) :
    step s = .fault r := by
  simp [step, hb, State.runAtPc, hi]

end

/-- Settles O9: the boundary lets the instruction execute, and what it executes is no instruction. -/
theorem executedUnassignedWordFaults : Obligations.ExecutedUnassignedWordFaults := by
  intro s iw hawake hreset hint hfetch hunassigned
  have hinstr : s.arrive.fetchInstr = .error (.unassignedOpcode s.pc iw) :=
    State.fetchInstr_of_unassigned (State.arrive_fetch.trans hfetch) hunassigned
  exact step_of_execute_error (State.boundary_of_quiet hawake hreset hint) hinstr

end Sys2Proof.Machine

/-! PROOFS. The byte-oriented instructions (40_byte_oriented.md): what a delivered result leaves of the state, the
results as numbers and their flags, and from the two what each instruction computes, writes and leaves unchanged. -/

namespace Sys2Proof.Machine

/-! ### A byte written to a location -/

theorem statusBitWritten_takeBit (place : Option (BitVec 3)) (r : Byte) (old : Bool) :
    StatusBitWritten place r old (takeBit place r old) := by
  cases place <;> simp [StatusBitWritten, takeBit]

theorem PortRegs.get_set (regs : PortRegs) (p q : Port) (v : Byte) :
    (regs.set p v).get q = if p = q then v else regs.get q := by
  split
  next h => exact h ▸ regs.get_set_same p v
  next h => exact regs.get_set_of_ne p q v (Ne.symm h)

/-- 20_memory.md R49, R53: `State.writeLoc` writes the one location. -/
theorem State.writeLoc_fileWritten (s : State) (l : FileLoc) (lists : Bool) (r : Byte) :
    FileWritten s (s.writeLoc l lists r) l r := by
  cases l with
  | plain a => simp [FileWritten, eventsAfter, Memory.read_write, eq_comm (a := a)]
  | status => simp [FileWritten, eventsAfter, statusBitWritten_takeBit]
  | port p | tris p => simp [FileWritten, eventsAfter, PortRegs.get_set]
  | pclath | intcon => simp [FileWritten, eventsAfter, BitVec.setWidth_eq_extractLsb']
  | null | tmr0 | option | pcl | fsr => simp [FileWritten, eventsAfter]

/-- What is written to a location does not depend on the flags. -/
theorem fileWritten_setFlags_iff {s t : State} {l : FileLoc} {r : Byte} (u : FlagUpdate) :
    FileWritten (s.setFlags u) t l r ↔ FileWritten s t l r := by
  cases u <;> rfl

/-! ### A result delivered to its destination -/

section
variable (s : State) (l : FileLoc) (d : Dest)

theorem State.toDest_delivered (out : Computed) : Delivered s (s.toDest l d out) l d out.1 := by
  refine ⟨by simp [SameControl], by simp [SameStack], ?_⟩
  cases d with
  | w => simp [SameFiles]
  | f => exact ⟨by simp, (fileWritten_setFlags_iff out.2).mp (State.writeLoc_fileWritten _ l out.2.lists out.1)⟩

/-- 10_state.md R42, the note: listed flags keep the values computed with the result, whatever the destination. -/
theorem State.toDest_sameFlags {out : Computed} (h : out.2.lists = true) :
    SameFlags (s.setFlags out.2) (s.toDest l d out) := by
  cases d with
  | w => exact sameFlags_refl _
  | f =>
    by_cases hl : l = .status
    · simp [hl, h, SameFlags]
    · have hkept := State.writeLoc_flag_of_ne_status (s.setFlags out.2) hl out.2.lists out.1
      exact ⟨hkept .c, hkept .dc, hkept .z⟩

/-- 10_state.md R42, the note: with no flag listed, the flags take the data bits of STATUS, and nothing elsewhere. -/
theorem State.toDest_flagsAsData (r : Byte) : FlagsAsData s (s.toDest l d (withoutFlags r)) l d r := by
  unfold FlagsAsData
  split
  next h =>
    obtain ⟨rfl, rfl⟩ := h
    exact ⟨statusBitWritten_takeBit _ _ _, statusBitWritten_takeBit _ _ _, statusBitWritten_takeBit _ _ _⟩
  next h =>
    have hkept (flag : Flag) : (s.toDest l d (withoutFlags r)).flag flag = s.flag flag :=
      s.toDest_flag (fun hd hl => h ⟨hd, hl⟩) List.not_mem_nil
    exact ⟨hkept .c, hkept .dc, hkept .z⟩

theorem State.toDest_pc (out : Computed) (h : ¬(d = .f ∧ l = .pcl)) : (s.toDest l d out).pc = s.pc := by
  cases d with
  | w => simp
  | f => rw [State.toDest_toFile, State.writeLoc_pc_of_ne_pcl _ (fun hl => h ⟨rfl, hl⟩), State.setFlags_pc]

end

/-! ### The end of an instruction -/

theorem falls_of_pc {s t : State} (hpc : t.pc = s.pc + 1#13) (hcycles : t.cycles = s.cycles + 1) : Falls s t :=
  ⟨by rw [hpc, BitVec.toNat_add]; rfl, hcycles⟩

theorem State.advance_falls (s : State) : Falls s s.advance := falls_of_pc rfl rfl

/-- 10_state.md R21: the skip counts from the address of the instruction, which the state before it still holds. -/
theorem State.skipIf_skips {s t : State} {test : Bool} {p : Prop} (htest : test = true ↔ p) (hpc : t.pc = s.pc)
    (hcycles : t.cycles = s.cycles) : Skips s (t.skipIf test) p := by
  refine ⟨fun hp => ?_, fun hp => ?_⟩
  · rw [State.skipIf_pc, State.skipIf_cycles, if_pos (htest.mpr hp), if_pos (htest.mpr hp), hpc, hcycles,
      BitVec.toNat_add]
    exact ⟨rfl, rfl⟩
  · have hfalse := mt htest.mp hp
    exact falls_of_pc (by rw [State.skipIf_pc, if_neg hfalse, hpc])
      (by rw [State.skipIf_cycles, if_neg hfalse, hcycles])

section
variable (s : State) (l : FileLoc) (d : Dest)

/-- What a byte-oriented instruction without a skip answers (40_byte_oriented.md R100). -/
def State.deliver (out : Computed) : State := (s.toDest l d out).finishDest l d

theorem State.deliver_delivered (out : Computed) : Delivered s (s.deliver l d out) l d out.1 := by
  have h := s.toDest_delivered l d out
  cases d with
  | w => exact h
  | f => cases l <;> exact h

theorem State.deliver_deliveredPc (out : Computed) : DeliveredPc s (s.deliver l d out) l d out.1 := by
  unfold DeliveredPc
  split
  next h =>
    obtain ⟨rfl, rfl⟩ := h
    exact ⟨(State.writeLoc_pcl_pc_toNat _ out.2.lists out.1).trans (by simp), by simp [State.deliver]⟩
  next h =>
    refine falls_of_pc (s.finishDest_toDest_pc out fun hd hl => h ⟨hd, hl⟩) ?_
    cases d with
    | w => simp [State.deliver]
    | f =>
      rw [State.deliver, State.finishDest_toFile, State.finishWrite_of_ne_pcl _ _ fun hl => h ⟨rfl, hl⟩]
      simp

theorem State.deliver_sameFlags {out : Computed} (h : out.2.lists = true) :
    SameFlags (s.setFlags out.2) (s.deliver l d out) := by
  simpa [State.deliver, SameFlags] using s.toDest_sameFlags l d h

theorem State.deliver_flagsAsData (r : Byte) : FlagsAsData s (s.deliver l d (withoutFlags r)) l d r := by
  simpa [State.deliver, FlagsAsData, SameFlags] using s.toDest_flagsAsData l d r

end

/-! ### Results as numbers, and their flags -/

/-- Bits put together without overlap add up. -/
theorem toNat_shiftLeft_or (x y : Byte) {n : Nat} (hy : y.toNat < 2 ^ n) :
    ((x <<< n) ||| y).toNat = (x.toNat * 2 ^ n + y.toNat) % 256 := by
  have hdisjoint : x <<< n &&& y = 0#8 := by
    refine BitVec.eq_of_getLsbD_eq fun i _ => ?_
    rw [BitVec.getLsbD_and, BitVec.getLsbD_shiftLeft, BitVec.getLsbD_zero]
    by_cases hi : i < n
    · simp [hi]
    · have hbit : y.getLsbD i = false :=
        Nat.testBit_lt_two_pow (lt_of_lt_of_le hy (Nat.pow_le_pow_right Nat.zero_lt_two (Nat.le_of_not_lt hi)))
      rw [hbit, Bool.and_false]
  rw [← BitVec.add_eq_or_of_and_eq_zero _ _ hdisjoint, BitVec.toNat_add, BitVec.toNat_shiftLeft, Nat.shiftLeft_eq,
    Nat.mod_add_mod]

theorem toNat_setWidth_ofBool (c : Bool) : ((BitVec.ofBool c).setWidth 8).toNat = c.toNat := by
  cases c <;> rfl

/-- 40_byte_oriented.md R102. -/
theorem rotateLeft_toNat (v : Byte) (c : Bool) : (rotateLeft v c).1.toNat = (2 * v.toNat + c.toNat) % 256 := by
  have hc := Bool.toNat_lt c
  rw [rotateLeft, toNat_shiftLeft_or _ _ (by rwa [toNat_setWidth_ofBool]), toNat_setWidth_ofBool]
  omega

/-- 40_byte_oriented.md R102. -/
theorem rotateRight_toNat (v : Byte) (c : Bool) : (rotateRight v c).1.toNat = v.toNat / 2 + 128 * c.toNat := by
  have hv : (v >>> 1).toNat = v.toNat / 2 := by rw [BitVec.toNat_ushiftRight, Nat.shiftRight_eq_div_pow]
  have hlt := v.isLt
  have hc := Bool.toNat_lt c
  rw [rotateRight, toNat_shiftLeft_or _ _ (by omega), toNat_setWidth_ofBool, hv]
  omega

/-- 40_byte_oriented.md R119. -/
theorem swapNibbles_toNat (v : Byte) : (swapNibbles v).toNat = v.toNat % 16 * 16 + v.toNat / 16 := by
  have hlow : (v &&& 0x0F#8).toNat = v.toNat % 16 := Nat.and_two_pow_sub_one_eq_mod v.toNat 4
  have hhigh : (v >>> 4).toNat = v.toNat / 16 := by rw [BitVec.toNat_ushiftRight, Nat.shiftRight_eq_div_pow]
  have hlt := v.isLt
  rw [swapNibbles, toNat_shiftLeft_or _ _ (by omega), hlow, hhigh]
  omega

theorem getLsbD_seven_iff (v : Byte) : v.getLsbD 7 = true ↔ 128 ≤ v.toNat := by
  have hlt := v.isLt
  rw [← BitVec.testBit_toNat, Nat.testBit_eq_decide_div_mod_eq, decide_eq_true_eq]
  omega

theorem getLsbD_zero_iff (v : Byte) : v.getLsbD 0 = true ↔ v.toNat % 2 = 1 := by
  rw [← BitVec.testBit_toNat, Nat.testBit_eq_decide_div_mod_eq, decide_eq_true_eq]
  omega

theorem sub_one_toNat (v : Byte) : (v - 1#8).toNat = (v.toNat + 255) % 256 := by
  rw [BitVec.toNat_sub]
  exact congrArg (· % 256) (Nat.add_comm _ _)

/-- 40_byte_oriented.md R101: the sum and its three flags. -/
theorem addition_eq (x w : Byte) :
    addition x w =
      (x + w,
        .cdcz (decide (255 < x.toNat + w.toNat)) (decide (15 < x.toNat % 16 + w.toNat % 16)) (isZero (x + w))) := by
  simp [addition, add8, BitVec.ofNat_add]

/-- 40_byte_oriented.md R101, R209: adding the complement and 1 subtracts, and a carry out is no borrow. -/
theorem subtraction_eq (x w : Byte) :
    subtraction x w =
      (x - w, .cdcz (decide (w.toNat ≤ x.toNat)) (decide (w.toNat % 16 ≤ x.toNat % 16)) (decide (x = w))) := by
  have hx := x.isLt
  have hw := w.isLt
  have hnot : (~~~w).toNat = 255 - w.toNat := by rw [BitVec.toNat_not]
  have hresult : BitVec.ofNat 8 (x.toNat + (~~~w).toNat + 1) = x - w := by
    apply BitVec.eq_of_toNat_eq
    rw [BitVec.toNat_ofNat, BitVec.toNat_sub, hnot]
    omega
  have hzero : isZero (x - w) = decide (x = w) := by
    rw [isZero, decide_eq_decide]
    exact sub_eq_zero
  have hcarry : 255 < x.toNat + (~~~w).toNat + 1 ↔ w.toNat ≤ x.toNat := by omega
  have hdigit : 15 < x.toNat % 16 + (~~~w).toNat % 16 + 1 ↔ w.toNat % 16 ≤ x.toNat % 16 := by omega
  simp only [subtraction, add8, Bool.toNat_true, hresult, hzero, hcarry, hdigit]

/-- Settles O59: both are the adder's results, the difference with W's complement. -/
theorem adderCarriesMeanNoBorrowInSubtraction : Obligations.AdderCarriesMeanNoBorrowInSubtraction := fun x w =>
  ⟨⟨_, _, _, _, addition_eq x w, BitVec.toNat_add x w, decide_eq_true_iff, decide_eq_true_iff, isZero_iff _⟩,
    ⟨_, _, _, _, subtraction_eq x w, rfl, decide_eq_true_iff, decide_eq_true_iff, decide_eq_true_iff⟩⟩

/-! The flags of a state that has those computed with a result. -/

section
variable {s t : State}

theorem sumFlags_of_addition {x w : Byte} (h : SameFlags (s.setFlags (addition x w).2) t) :
    SumFlags t (x.toNat + w.toNat) (x.toNat % 16 + w.toNat % 16) := by
  rw [addition_eq] at h
  obtain ⟨hc, hdc, hz⟩ := h
  refine ⟨hc ▸ decide_eq_true_iff, hdc ▸ decide_eq_true_iff, ?_⟩
  rw [hz, State.setFlags_cdcz, isZero_iff, ← BitVec.toNat_inj, BitVec.toNat_add]
  rfl

theorem differenceFlags_of_subtraction {m w : Byte} (h : SameFlags (s.setFlags (subtraction m w).2) t) :
    DifferenceFlags t m w := by
  rw [subtraction_eq] at h
  obtain ⟨hc, hdc, hz⟩ := h
  exact ⟨hc ▸ decide_eq_true_iff, hdc ▸ decide_eq_true_iff, hz ▸ decide_eq_true_iff⟩

theorem zeroOnly_of_withZero {r : Byte} (h : SameFlags (s.setFlags (withZero r).2) t) : ZeroOnly s t r := by
  obtain ⟨hc, hdc, hz⟩ := h
  exact ⟨hc, hdc, hz ▸ isZero_iff r⟩

end

/-! ### Each instruction: its result, its flags and its frame -/

section
variable {s : State} {f : FileField} {l : FileLoc} (hea : s.ea f = .ok l)
include hea

theorem byteOriented_eq_deliver (d : Dest) (compute : Byte → Computed) :
    byteOriented f d compute s = .next (s.deliver l d (compute (s.readLoc l))) :=
  byteOriented_of_ok d compute hea

/-- A write without a read is a delivery to the file. -/
theorem fileWrite_eq_deliver (out : Computed) : fileWrite f out s = .next (s.deliver l .f out) :=
  fileWrite_of_ok out hea

end

section
variable (s : State) (l : FileLoc) (d : Dest)

/-- An instruction that lists Z alone. -/
theorem State.deliver_withZero (r : Byte) :
    ZeroOnly s (s.deliver l d (withZero r)) r ∧ Delivered s (s.deliver l d (withZero r)) l d r ∧
      DeliveredPc s (s.deliver l d (withZero r)) l d r :=
  ⟨zeroOnly_of_withZero (s.deliver_sameFlags l d rfl), s.deliver_delivered l d _, s.deliver_deliveredPc l d _⟩

/-- An instruction that lists no flag. -/
theorem State.deliver_withoutFlags (r : Byte) :
    FlagsAsData s (s.deliver l d (withoutFlags r)) l d r ∧ Delivered s (s.deliver l d (withoutFlags r)) l d r ∧
      DeliveredPc s (s.deliver l d (withoutFlags r)) l d r :=
  ⟨s.deliver_flagsAsData l d r, s.deliver_delivered l d _, s.deliver_deliveredPc l d _⟩

end

/-- Settles O13: the sum and its flags, delivered. -/
theorem addwfAddsWAndTheFile : Obligations.AddwfAddsWAndTheFile := fun s _ d l hea =>
  ⟨_, _, byteOriented_eq_deliver hea d (fun v => addition v s.w), addition_toNat _ _,
    sumFlags_of_addition (s.deliver_sameFlags l d rfl), s.deliver_delivered l d _, s.deliver_deliveredPc l d _⟩

/-- Settles O14: the difference and its flags, delivered. -/
theorem subwfSubtractsWFromTheFile : Obligations.SubwfSubtractsWFromTheFile := by
  intro s f d l hea
  refine ⟨_, _, byteOriented_eq_deliver hea d (fun v => subtraction v s.w), ?_,
    differenceFlags_of_subtraction (s.deliver_sameFlags l d rfl), s.deliver_delivered l d _,
    s.deliver_deliveredPc l d _⟩
  rw [subtraction_eq, BitVec.toNat_sub]
  have hw := s.w.isLt
  omega

/-- Settles O15: the three results with their Z, delivered. -/
theorem logicOfWAndTheFile : Obligations.LogicOfWAndTheFile := fun s _ d l hea =>
  ⟨⟨_, _, byteOriented_eq_deliver hea d (fun v => withZero (s.w &&& v)), fun _ => BitVec.getLsbD_and,
      s.deliver_withZero l d _⟩,
    ⟨_, _, byteOriented_eq_deliver hea d (fun v => withZero (s.w ||| v)), fun _ => BitVec.getLsbD_or,
      s.deliver_withZero l d _⟩,
    ⟨_, _, byteOriented_eq_deliver hea d (fun v => withZero (s.w ^^^ v)), fun _ => BitVec.getLsbD_xor,
      s.deliver_withZero l d _⟩⟩

/-- Settles O16: the complement, and the byte itself, delivered with their Z. -/
theorem comfComplementsAndMovfMoves : Obligations.ComfComplementsAndMovfMoves := fun s _ d l hea =>
  ⟨⟨_, _, byteOriented_eq_deliver hea d (fun v => withZero (~~~v)), BitVec.toNat_not, s.deliver_withZero l d _⟩,
    ⟨_, byteOriented_eq_deliver hea d withZero, s.deliver_withZero l d _⟩⟩

/-- Settles O17: the two counts with their Z, delivered. -/
theorem decfAndIncfCountModulo256 : Obligations.DecfAndIncfCountModulo256 := fun s _ d l hea =>
  ⟨⟨_, _, byteOriented_eq_deliver hea d (fun v => withZero (v - 1#8)), sub_one_toNat _, s.deliver_withZero l d _⟩,
    ⟨_, _, byteOriented_eq_deliver hea d (fun v => withZero (v + 1#8)), BitVec.toNat_add _ _, s.deliver_withZero l d _⟩⟩

/-- Settles O18: the rotated byte, delivered; a rotation lists C alone. -/
theorem rlfAndRrfRotateThroughCarry : Obligations.RlfAndRrfRotateThroughCarry := by
  intro s f d l hea
  refine ⟨?rlf, ?rrf⟩
  case rlf =>
    obtain ⟨hc, hdc, hz⟩ := s.deliver_sameFlags l d (out := rotateLeft (s.readLoc l) s.c) rfl
    exact ⟨_, _, byteOriented_eq_deliver hea d (fun v => rotateLeft v s.c), rotateLeft_toNat _ _,
      hc ▸ getLsbD_seven_iff _, hdc, hz, s.deliver_delivered l d _, s.deliver_deliveredPc l d _⟩
  case rrf =>
    obtain ⟨hc, hdc, hz⟩ := s.deliver_sameFlags l d (out := rotateRight (s.readLoc l) s.c) rfl
    exact ⟨_, _, byteOriented_eq_deliver hea d (fun v => rotateRight v s.c), rotateRight_toNat _ _,
      hc ▸ getLsbD_zero_iff _, hdc, hz, s.deliver_delivered l d _, s.deliver_deliveredPc l d _⟩

/-- Settles O19: the exchanged nibbles, delivered with no flag listed. -/
theorem swapfExchangesTheNibbles : Obligations.SwapfExchangesTheNibbles := fun s _ d l hea =>
  ⟨_, _, byteOriented_eq_deliver hea d (fun v => withoutFlags (swapNibbles v)), swapNibbles_toNat _,
    s.deliver_withoutFlags l d _⟩

/-- The delivery of a count, and the skip if it is 0 (40_byte_oriented.md R109, R111). -/
theorem State.toDest_skipIf_delivered (s : State) {l : FileLoc} {d : Dest} (hpcl : ¬(d = .f ∧ l = .pcl)) (r : Byte) :
    FlagsAsData s ((s.toDest l d (withoutFlags r)).skipIf (isZero r)) l d r ∧
      Delivered s ((s.toDest l d (withoutFlags r)).skipIf (isZero r)) l d r ∧
      Skips s ((s.toDest l d (withoutFlags r)).skipIf (isZero r)) (r = 0#8) :=
  ⟨s.toDest_flagsAsData l d r, s.toDest_delivered l d (withoutFlags r),
    State.skipIf_skips (isZero_iff r) (s.toDest_pc l d _ hpcl) (s.toDest_cycles l d _)⟩

/-- Settles O20: the two counts, delivered with no flag listed, before the skip. -/
theorem decfszAndIncfszSkipOnZero : Obligations.DecfszAndIncfszSkipOnZero := fun s _ d _ hea hpcl =>
  ⟨⟨_, _, skipIfZero_of_ok d (fun v => v - 1#8) _ hea hpcl, sub_one_toNat _, s.toDest_skipIf_delivered hpcl _⟩,
    ⟨_, _, skipIfZero_of_ok d (fun v => v + 1#8) _ hea hpcl, BitVec.toNat_add _ _, s.toDest_skipIf_delivered hpcl _⟩⟩

/-- Settles O21: W is delivered with no flag listed, 0 with its Z. -/
theorem clrfAndMovwfWriteTheFile : Obligations.ClrfAndMovwfWriteTheFile := by
  intro s f l hea
  refine ⟨?clrf, ⟨_, fileWrite_eq_deliver hea _, s.deliver_withoutFlags l .f s.w⟩⟩
  case clrf =>
    obtain ⟨⟨hc, hdc, hz⟩, hdelivered⟩ := s.deliver_withZero l .f 0x00#8
    exact ⟨_, fileWrite_eq_deliver hea _, hc, hdc, hz.mpr rfl, hdelivered⟩

/-- Settles O22: only W, Z, the program counter and the cycle count differ. -/
theorem clrwClearsWAndNopDoesNothing : Obligations.ClrwClearsWAndNopDoesNothing := by
  intro s
  have haround : SameAround s s := ⟨sameControl_refl s, ⟨rfl, rfl⟩, sameFiles_refl s⟩
  exact ⟨⟨_, rfl, rfl, rfl, rfl, rfl, haround, s.advance_falls⟩,
    ⟨_, rfl, rfl, sameFlags_refl s, haround, s.advance_falls⟩⟩

/-! ### Nine rotations -/

/-- One rotation of a byte and the carry, the ring of nine bits of 40_byte_oriented.md R102. -/
def ringRotate (p : Byte × Bool) : Byte × Bool := ((rotateLeft p.1 p.2).1, p.1.getLsbD 7)

/-- A bit of the ring: the byte's from 0 to 7, then the carry. -/
def ringBit (p : Byte × Bool) (n : Nat) : Bool := if n < 8 then p.1.getLsbD n else p.2

theorem ring_ext {p q : Byte × Bool} (h : ∀ n < 9, ringBit p n = ringBit q n) : p = q := by
  refine Prod.ext (BitVec.eq_of_getLsbD_eq fun n hn => ?_) (h 8 (by decide))
  simpa [ringBit, hn] using h n (by omega)

theorem getLsbD_rotateLeft (v : Byte) (c : Bool) {n : Nat} (hn : n < 8) :
    (rotateLeft v c).1.getLsbD n = if n = 0 then c else v.getLsbD (n - 1) := by
  cases n with
  | zero => simp [rotateLeft]
  | succ n => simp [rotateLeft, hn, -BitVec.getLsbD_eq_getElem]

/-- A rotation moves every bit of the ring on by one place. -/
theorem ringBit_ringRotate (p : Byte × Bool) (n : Nat) : ringBit (ringRotate p) ((n + 1) % 9) = ringBit p (n % 9) := by
  obtain hcarry | htop | hlow : n % 9 = 8 ∨ n % 9 = 7 ∨ n % 9 < 7 := by omega
  · have hnext : (n + 1) % 9 = 0 := by omega
    rw [hcarry, hnext]
    exact getLsbD_rotateLeft p.1 p.2 (by decide)
  · have hnext : (n + 1) % 9 = 8 := by omega
    rw [htop, hnext]
    rfl
  · have hnext : (n + 1) % 9 = n % 9 + 1 := by omega
    have hsucc : n % 9 + 1 < 8 := by omega
    rw [hnext, ringBit, ringBit, if_pos hsucc, if_pos (Nat.lt_of_succ_lt hsucc)]
    exact getLsbD_rotateLeft p.1 p.2 hsucc

theorem ringBit_iterate_ringRotate (p : Byte × Bool) (m n : Nat) :
    ringBit (ringRotate^[m] p) ((n + m) % 9) = ringBit p (n % 9) := by
  induction m with
  | zero => rfl
  | succ m ih => rw [Function.iterate_succ_apply', ← Nat.add_assoc, ringBit_ringRotate, ih]

theorem ringRotate_nine (p : Byte × Bool) : ringRotate^[9] p = p := by
  refine ring_ext fun n hn => ?_
  have h := ringBit_iterate_ringRotate p 9 n
  rwa [Nat.add_mod_right, Nat.mod_eq_of_lt hn] at h

section
variable {s : State} {f : FileField} {a : Nat}

/-- The designation of `f` depends on neither the flags nor plain storage, so that a rotation can be repeated. -/
theorem exec_rlf_of_plain (hea : s.ea f = .ok (.plain a)) :
    ∃ t, exec (.rlf f .f) s = .next t ∧ t.ea f = .ok (.plain a) ∧
      (t.plainByte a, t.c) = ringRotate (s.plainByte a, s.c) ∧ ∀ b, b ≠ a → t.plainByte b = s.plainByte b :=
  ⟨_, byteOriented_of_ok .f (fun v => rotateLeft v s.c) hea, hea,
    Prod.ext (State.plainByte_of_read (Memory.read_write_same s.data a _)) rfl,
    fun _ hb => State.plainByte_write_of_ne hb _⟩

theorem execTimes_rlf_of_plain (n : Nat) (hea : s.ea f = .ok (.plain a)) :
    ∃ t, execTimes n (.rlf f .f) s = .next t ∧ (t.plainByte a, t.c) = ringRotate^[n] (s.plainByte a, s.c) ∧
      ∀ b, b ≠ a → t.plainByte b = s.plainByte b := by
  induction n generalizing s with
  | zero => exact ⟨s, rfl, rfl, fun _ _ => rfl⟩
  | succ n ih =>
    obtain ⟨u, hexec, hea', hring, hothers⟩ := exec_rlf_of_plain hea
    obtain ⟨t, htimes, hring', hothers'⟩ := ih hea'
    refine ⟨t, ?_, ?_, fun b hb => (hothers' b hb).trans (hothers b hb)⟩
    · simpa only [execTimes, hexec] using htimes
    · rw [hring', hring, Function.iterate_succ_apply]

end

/-- Settles O60: each rotation moves the ring of the byte and the carry on by one of nine places. -/
theorem nineRotationsRestoreRegisterAndCarry : Obligations.NineRotationsRestoreRegisterAndCarry := by
  intro s f a hea
  obtain ⟨t, htimes, hring, hothers⟩ := execTimes_rlf_of_plain 9 hea
  obtain ⟨hbyte, hcarry⟩ := Prod.mk.inj (hring.trans (ringRotate_nine _))
  exact ⟨t, htimes, hbyte, hcarry, hothers⟩

/-! ### The skip onto the program counter -/

theorem encodeB_toNat (opcode : BitVec 6) (d : Dest) (f : FileField) :
    (encodeB opcode d f).toNat = opcode.toNat * 256 + d.bit.toNat * 128 + f.toNat := by
  rw [encodeB, BitVec.toNat_cast, BitVec.toNat_append, BitVec.toNat_append,
    ← Nat.shiftLeft_add_eq_or_of_lt d.bit.isLt, ← Nat.shiftLeft_add_eq_or_of_lt f.isLt, Nat.shiftLeft_eq,
    Nat.shiftLeft_eq]
  omega

section
variable {iw : InstrWord}

theorem fieldD_bit_toNat (iw : InstrWord) : (fieldD iw).bit.toNat = iw.toNat / 2 ^ 7 % 2 := by
  unfold fieldD
  split
  next h => rw [(getLsbD_iff_div iw 7).mp h]; rfl
  next h =>
    rw [getLsbD_iff_div] at h
    exact (Nat.mod_two_ne_one.mp h).symm

/-- 30_encoding.md R68, format B: the opcode, `d` and `f` are the whole word. -/
theorem eq_encodeB_of_row {opcode : BitVec 6} (h : iw.toNat / 2 ^ 8 = opcode.toNat) :
    iw = encodeB opcode (fieldD iw) (fieldF iw) := by
  have hfield : (fieldF iw).toNat = iw.toNat % 128 := by rw [fieldF, field_toNat, pow_zero, Nat.div_one]; rfl
  apply BitVec.eq_of_toNat_eq
  rw [encodeB_toNat, fieldD_bit_toNat, hfield, ← h]
  omega

/-- R76: `00 1011 dfff ffff`. -/
theorem decode_decfsz_of_row (h : iw.toNat / 2 ^ 8 = 11) : decode iw = .ok (.decfsz (fieldF iw) (fieldD iw)) := by
  have hrow : (field iw 8 4).toNat = 11 := by rw [field_toNat]; omega
  rw [decode_of_group_zero (by omega)]
  simp only [decodeByteOriented, hrow]

/-- R76: `00 1111 dfff ffff`. -/
theorem decode_incfsz_of_row (h : iw.toNat / 2 ^ 8 = 15) : decode iw = .ok (.incfsz (fieldF iw) (fieldD iw)) := by
  have hrow : (field iw 8 4).toNat = 15 := by rw [field_toNat]; omega
  rw [decode_of_group_zero (by omega)]
  simp only [decodeByteOriented, hrow]

/-- In a row of format B without don't-care bits one word decodes to an instruction. -/
theorem eq_encodeB_of_decode (opcode : BitVec 6) {mk : FileField → Dest → Instr} {f : FileField} {d : Dest}
    (hmk : Function.Injective2 mk)
    (hmask : (mk f d).maskMatch = (highMask 8, BitVec.ofNat 14 (opcode.toNat * 2 ^ 8)))
    (hdecode : iw.toNat / 2 ^ 8 = opcode.toNat → decode iw = .ok (mk (fieldF iw) (fieldD iw)))
    (h : decode iw = .ok (mk f d)) : iw = encodeB opcode d f := by
  have hlt : opcode.toNat * 2 ^ 8 < 2 ^ 14 := Nat.mul_lt_mul_of_pos_right opcode.isLt (by decide)
  have hrow : iw.toNat / 2 ^ 8 = opcode.toNat := by
    obtain ⟨-, hmatch⟩ := decodedWordLiesInItsRow iw _ h
    rw [hmask] at hmatch
    exact (and_highMask_eq_iff iw 8 _ hlt).mp hmatch
  obtain ⟨rfl, rfl⟩ := hmk (Except.ok.inj (h.symm.trans (hdecode hrow)))
  exact eq_encodeB_of_row hrow

end

/-- Settles O33: the fault records the instruction's canonical word, which is the only one that decodes to it. -/
theorem skipOntoTheProgramCounterFaults : Obligations.SkipOntoTheProgramCounterFaults := by
  intro s f iw hea
  refine ⟨fun h => ?decfsz, fun h => ?incfsz⟩
  case decfsz =>
    have hword : iw = encode (.decfsz f .f) :=
      eq_encodeB_of_decode 0b001011#6 (fun _ _ _ _ => Instr.decfsz.inj) rfl decode_decfsz_of_row h
    exact hword ▸ skipIfZero_of_pcl (fun v => v - 1#8) _ hea
  case incfsz =>
    have hword : iw = encode (.incfsz f .f) :=
      eq_encodeB_of_decode 0b001111#6 (fun _ _ _ _ => Instr.incfsz.inj) rfl decode_incfsz_of_row h
    exact hword ▸ skipIfZero_of_pcl (fun v => v + 1#8) _ hea

end Sys2Proof.Machine

/-! PROOFS. The bit-oriented instructions (41_bit_oriented.md): the byte that BCF and BSF write back, delivered to the
file as any result that lists no flag, and the skip of BTFSC and BTFSS, which leaves the rest of the state as it was. -/

namespace Sys2Proof.Machine

/-! ### One bit changed, all eight written -/

/-- 41_bit_oriented.md R131; `getLsbD_setBit` is R132. -/
theorem getLsbD_clearBit (v : Byte) (b : BitVec 3) {n : Nat} (hn : n < 8) :
    (clearBit v b).getLsbD n = if n = b.toNat then false else v.getLsbD n := by
  rw [clearBit, bitMask, ← BitVec.twoPow_eq, BitVec.getLsbD_and, BitVec.getLsbD_not, BitVec.getLsbD_twoPow]
  by_cases h : n = b.toNat
  · simp [h, b.isLt]
  · simp [h, Ne.symm h, hn]

/-- Settles O23: the byte with its one bit changed, delivered to the file with no flag listed. -/
theorem bcfAndBsfChangeOneBit : Obligations.BcfAndBsfChangeOneBit := fun s _ b l hea =>
  ⟨⟨_, _, byteOriented_eq_deliver hea .f (fun v => withoutFlags (clearBit v b)),
      fun _ hn => getLsbD_clearBit _ b hn, s.deliver_withoutFlags l .f _⟩,
    ⟨_, _, byteOriented_eq_deliver hea .f (fun v => withoutFlags (setBit v b)),
      fun n _ => getLsbD_setBit _ b n, s.deliver_withoutFlags l .f _⟩⟩

/-! ### The skip on a bit -/

/-- 10_state.md R21: a skip writes the program counter and the cycle count only. -/
theorem State.skipIf_sameAround (s : State) (test : Bool) : SameAround s (s.skipIf test) :=
  ⟨sameControl_refl s, ⟨rfl, rfl⟩, sameFiles_refl s⟩

/-- What BTFSC and BTFSS have in common: the test decides the skip, and nothing is written. -/
theorem bitTest_skips {s : State} {f : FileField} {l : FileLoc} {p : Prop}
    (test : Byte → Bool) (hea : s.ea f = .ok l) (htest : test (s.readLoc l) = true ↔ p) :
    ∃ t : State, bitTest f test s = .next t ∧ t.w = s.w ∧ SameFlags s t ∧ SameAround s t ∧ Skips s t p :=
  ⟨_, bitTest_of_ok test hea, rfl, sameFlags_refl s, s.skipIf_sameAround _, State.skipIf_skips htest rfl rfl⟩

/-- Settles O24: the two instructions differ in the value of the bit on which they skip. -/
theorem btfscAndBtfssSkipOnTheBit : Obligations.BtfscAndBtfssSkipOnTheBit := fun _ _ b _ hea =>
  ⟨bitTest_skips (fun v => !testBit v b) hea (iff_of_eq (Bool.not_eq_true' _)),
    bitTest_skips (fun v => testBit v b) hea Iff.rfl⟩

end Sys2Proof.Machine

/-! PROOFS. The literal and control instructions (42_literal_control.md): the state a literal instruction answers, CALL
and GOTO to their page target, the returns to the top entry, and the watchdog cleared. -/

namespace Sys2Proof.Machine

/-! ### A result put in W -/

section
variable (s : State)

/-- What a literal instruction answers (R140). -/
def State.loadW (out : Computed) : State := ((s.setFlags out.2).setW out.1).advance

theorem literal_eq_loadW (out : Computed) : literal out s = .next (s.loadW out) := rfl

theorem State.loadW_w (out : Computed) : (s.loadW out).w = out.1 := rfl

theorem State.loadW_sameFlags (out : Computed) : SameFlags (s.setFlags out.2) (s.loadW out) := sameFlags_refl _

theorem State.loadW_sameAround (out : Computed) : SameAround s (s.loadW out) := by
  simp [State.loadW, SameAround, SameControl, SameStack, SameFiles]

theorem State.loadW_falls (out : Computed) : Falls s (s.loadW out) :=
  falls_of_pc (by simp [State.loadW]) (by simp [State.loadW])

/-- A literal instruction that lists Z alone. -/
theorem State.loadW_withZero (r : Byte) :
    ZeroOnly s (s.loadW (withZero r)) r ∧ SameAround s (s.loadW (withZero r)) ∧ Falls s (s.loadW (withZero r)) :=
  ⟨zeroOnly_of_withZero (s.loadW_sameFlags _), s.loadW_sameAround _, s.loadW_falls _⟩

end

/-- Settles O25: the model adds W to the literal, the statement the literal to W. -/
theorem addlwAndSublwComputeIntoW : Obligations.AddlwAndSublwComputeIntoW := by
  intro s k
  refine ⟨⟨_, literal_eq_loadW s (addition k s.w), ?sum, ?sumFlags, s.loadW_sameAround _, s.loadW_falls _⟩,
    ⟨_, literal_eq_loadW s (subtraction k s.w), ?difference, ?differenceFlags, s.loadW_sameAround _,
      s.loadW_falls _⟩⟩
  case sum => rw [State.loadW_w, addition_toNat, Nat.add_comm]
  case sumFlags =>
    have hflags := sumFlags_of_addition (s.loadW_sameFlags (addition k s.w))
    rwa [Nat.add_comm k.toNat, Nat.add_comm (k.toNat % 16)] at hflags
  case difference =>
    rw [State.loadW_w, subtraction_eq, BitVec.toNat_sub]
    have hw := s.w.isLt
    omega
  case differenceFlags => exact differenceFlags_of_subtraction (s.loadW_sameFlags _)

/-- Settles O26: the three bitwise results with their Z, and the literal itself with no flag listed. -/
theorem logicLiteralsAndMovlwWriteW : Obligations.LogicLiteralsAndMovlwWriteW := fun s k =>
  ⟨⟨_, literal_eq_loadW s (withZero (s.w &&& k)), fun _ => BitVec.getLsbD_and, s.loadW_withZero _⟩,
    ⟨_, literal_eq_loadW s (withZero (s.w ||| k)), fun _ => BitVec.getLsbD_or, s.loadW_withZero _⟩,
    ⟨_, literal_eq_loadW s (withZero (s.w ^^^ k)), fun _ => BitVec.getLsbD_xor, s.loadW_withZero _⟩,
    ⟨_, literal_eq_loadW s (withoutFlags k), s.loadW_w _, s.loadW_sameFlags _, s.loadW_sameAround _, s.loadW_falls _⟩⟩

/-! ### Calls, jumps and returns -/

/-- Settles O27: the push with a free slot writes the stack alone, and the jump goes on from there. -/
theorem callPushesTheNextAddressAndJumps : Obligations.CallPushesTheNextAddressAndJumps := by
  intro s k hroom
  have hpush := s.push_of_room (s.pc + 1#13) hroom
  exact ⟨_, _, exec_call_of_push k hpush, BitVec.toNat_add s.pc 1#13, rfl, rfl, pageJump_jump_pageTarget s k rfl, rfl,
    sameFlags_refl s, sameControl_refl s, sameFiles_refl s⟩

/-- Settles O28: a jump writes the program counter and the cycle count only. -/
theorem gotoJumpsWithinThePageOfPclath : Obligations.GotoJumpsWithinThePageOfPclath := fun s k =>
  ⟨_, rfl, pageJump_jump_pageTarget s k rfl, rfl, sameFlags_refl s, sameControl_refl s, ⟨rfl, rfl⟩, sameFiles_refl s⟩

/-- Settles O29: the pop of a live entry writes the stack alone, whose top entry the program counter takes whole. -/
theorem returnsPopTheProgramCounter : Obligations.ReturnsPopTheProgramCounter := by
  intro s k back rest hlive
  have hpop := s.pop_of_live back rest hlive
  have hflags := sameFlags_refl s
  have hcontrol := sameControl_refl s
  refine ⟨?ret, ?retlw, ?retfie⟩
  case ret => exact ⟨_, exec_ret_of_pop hpop, returnedTo_jump back rfl hflags hcontrol, rfl, sameFiles_refl s⟩
  case retlw => exact ⟨_, exec_retlw_of_pop k hpop, returnedTo_jump back rfl hflags hcontrol, rfl, sameFiles_refl s⟩
  case retfie =>
    exact ⟨_, exec_retfie_of_pop hpop, returnedTo_jump back rfl hflags hcontrol, rfl,
      sameFiles_refl { s with gie := true }⟩

/-! ### The watchdog -/

/-- R145, R152, C13: of the special file registers, clearing the watchdog writes the prescaler alone. -/
theorem State.clearWatchdog_sameFiles (s : State) :
    SameFiles { s with prescaler := if s.prescalerToTimer0 then s.prescaler else 0 } s.clearWatchdog :=
  sameFiles_refl s.clearWatchdog

/-- Settles O30: TO and PD and the sleep state are written besides the watchdog, and no file register. -/
theorem clrwdtAndSleepClearTheWatchdog : Obligations.ClrwdtAndSleepClearTheWatchdog := by
  intro s
  refine ⟨?clrwdt, ?sleep⟩
  case clrwdt =>
    exact ⟨_, rfl, rfl, sameFlags_refl s, ⟨rfl, rfl⟩, sameControl_refl (s.clearWatchdog.setTimePower true true),
      s.clearWatchdog_sameFiles, falls_of_pc rfl rfl⟩
  case sleep =>
    exact ⟨_, rfl, rfl, sameFlags_refl s, ⟨rfl, rfl⟩,
      sameControl_refl { s.clearWatchdog.setTimePower true false with asleep := true },
      s.clearWatchdog_sameFiles, falls_of_pc rfl rfl⟩

end Sys2Proof.Machine

/-! PROOFS. OPTION and TRIS (43_option_tris.md): the register that TRIS's operand names, the state each of the two
instructions answers, and the operands of TRIS that name no register. -/

namespace Sys2Proof.Machine

/-! ### The port that an operand of TRIS names -/

/-- R161: the operands 5, 6, 7, each its own port. -/
theorem trisPort_eq_some_iff (f : BitVec 3) (p : Port) : trisPort f = some p ↔ f.toNat = p.number := by
  unfold trisPort
  split
  case h_4 h5 h6 h7 => cases p <;> simpa [Port.number]
  all_goals
    rename_i hf
    cases p <;> simp [hf, Port.number]

theorem trisPort_of_number {f : BitVec 3} {p : Port} (h : f.toNat = p.number) : trisPort f = some p :=
  (trisPort_eq_some_iff f p).mpr h

theorem Port.five_le_number (p : Port) : 5 ≤ p.number := by
  cases p <;> simp [Port.number]

/-- U13: below 5 there is no port. -/
theorem trisPort_of_lt_five {f : BitVec 3} (h : f.toNat < 5) : trisPort f = none := by
  rw [Option.eq_none_iff_forall_ne_some]
  intro p hp
  have hnumber := (trisPort_eq_some_iff f p).mp hp
  have hfive := p.five_le_number
  omega

/-! ### The registers loaded -/

theorem exec_option (s : State) : exec .option s = .next (s.writeOption s.w).advance := rfl

theorem exec_tris_of_port (s : State) {f : BitVec 3} {p : Port} (h : trisPort f = some p) :
    exec (.tris f) s = .next (s.writeTris p s.w).advance := by
  show execTris f s = _
  simp only [execTris, h]

theorem exec_tris_of_no_port (s : State) {f : BitVec 3} (h : trisPort f = none) :
    exec (.tris f) s = .refused (.trisOperand f) := by
  show execTris f s = _
  simp only [execTris, h]

/-- Settles O31: each of the two states answered differs from `s` in one register, the event log, the program counter
and the cycle count. -/
theorem optionAndTrisLoadTheirRegisters : Obligations.OptionAndTrisLoadTheirRegisters := by
  intro s
  refine ⟨?option, fun f p hf => ?tris⟩
  case option =>
    exact ⟨_, exec_option s, rfl, sameFlags_refl s, sameControl_refl s, ⟨rfl, rfl⟩, sameFiles_refl (s.writeOption s.w),
      falls_of_pc rfl rfl⟩
  case tris =>
    exact ⟨_, exec_tris_of_port s (trisPort_of_number hf), rfl, sameFlags_refl s, sameControl_refl s, ⟨rfl, rfl⟩,
      s.trisRegs.get_set_same p s.w, fun q hq => s.trisRegs.get_set_of_ne p q s.w hq,
      sameFiles_refl (s.writeTris p s.w), falls_of_pc rfl rfl⟩

/-! ### The operands outside the range -/

theorem wf_tris_iff (f : BitVec 3) : (Instr.tris f).wf = true ↔ 5 ≤ f.toNat := decide_eq_true_iff

/-- Settles O36: such an operand names no port, and a decoded instruction is well formed (`decodedWordLiesInItsRow`). -/
theorem trisOutsideItsRangeIsRefused : Obligations.TrisOutsideItsRangeIsRefused := by
  intro s f hlow
  refine ⟨exec_tris_of_no_port s (trisPort_of_lt_five hlow), fun iw hdecode => ?_⟩
  obtain ⟨hwf, -⟩ := decodedWordLiesInItsRow iw (.tris f) hdecode
  exact absurd ((wf_tris_iff f).mp hwf) (Nat.not_le.mpr hlow)

end Sys2Proof.Machine

/-! PROOFS. Exceptions (60_exceptions.md, 70_reset_and_hazards.md R201, R219): what a boundary decides for each event,
what a reset leaves, and that the return from an interrupt undoes the entry. -/

namespace Sys2Proof.Machine

/-! ### What a boundary decides, event by event -/

section
variable {s t : State}

theorem State.choose_of_wdtTimesOut (hexternal : s.env.externalReset = false) (hwdt : s.wdtTimesOut = true) :
    s.choose = s.onWdtTimeout := by
  simp [State.choose, hexternal, hwdt]

theorem State.choose_of_asleep (hexternal : s.env.externalReset = false) (hwdt : s.wdtTimesOut = false)
    (hasleep : s.asleep = true) : s.choose = s.whileAsleep := by
  simp [State.choose, hexternal, hwdt, hasleep]

theorem State.choose_of_interruptDue (hexternal : s.env.externalReset = false) (hwdt : s.wdtTimesOut = false)
    (hawake : s.asleep = false) (hdue : s.interruptDue = true) : s.choose = s.interruptStep := by
  simp [State.choose, hexternal, hwdt, hawake, hdue]

theorem State.onWdtTimeout_of_awake (hawake : s.asleep = false) : s.onWdtTimeout = .settle (s.resetBy .wdt) := by
  simp [State.onWdtTimeout, hawake]

theorem State.onWdtTimeout_of_asleep (hasleep : s.asleep = true) :
    s.onWdtTimeout = .execute { s with timeOut := false, asleep := false } := by
  simp [State.onWdtTimeout, hasleep]

theorem State.whileAsleep_of_wakes (h : s.wakes = true) : s.whileAsleep = .execute { s with asleep := false } := by
  simp [State.whileAsleep, h]

theorem State.whileAsleep_of_not_wakes (h : s.wakes = false) : s.whileAsleep = .settle s := by
  simp [State.whileAsleep, h]

theorem State.interruptStep_of_taken (h : s.takeInterrupt = .ok t) : s.interruptStep = .settle t := by
  simp [State.interruptStep, h]

theorem step_of_settle (h : s.boundary = .settle t) : step s = .next t := by
  simp [step, h]

/-- 60_exceptions.md R177: an awake core with a request let through makes no other step than interrupt entry. -/
theorem step_of_interrupt (hawake : s.asleep = false) (hreset : NoResetDue s) (hgie : s.gie = true)
    (hrequest : s.arrive.intRequest = true) (htaken : s.arrive.takeInterrupt = .ok t) : step s = .next t := by
  obtain ⟨hexternal, hwdt⟩ := hreset.arrive_quiet
  have hdue : s.arrive.interruptDue = true := Bool.and_eq_true_iff.mpr ⟨hgie, hrequest⟩
  exact step_of_settle
    ((State.choose_of_interruptDue hexternal hwdt hawake hdue).trans (State.interruptStep_of_taken htaken))

/-- 60_exceptions.md R189: with no reset due, what a sleeping core does is decided by `Wake` alone. -/
theorem State.boundary_of_asleep (hasleep : s.asleep = true) (hreset : NoResetDue s) :
    s.boundary = s.arrive.whileAsleep := by
  obtain ⟨hexternal, hwdt⟩ := hreset.arrive_quiet
  exact State.choose_of_asleep hexternal hwdt hasleep

/-- 60_exceptions.md R186: with no external reset, a time-out of an enabled watchdog comes before all else. -/
theorem State.boundary_of_wdtTimeout (hexternal : (s.inputs.headD {}).externalReset = false)
    (henabled : s.cfg.wdtEnabled = true) (htimeout : (s.inputs.headD {}).wdtTimeout = true) :
    s.boundary = s.arrive.onWdtTimeout :=
  State.choose_of_wdtTimesOut hexternal (Bool.and_eq_true_iff.mpr ⟨henabled, htimeout⟩)

end

/-! ### Interrupts -/

/-- Settles O38: GIE lets no request through, so no event keeps the core from executing. -/
theorem noInterruptWithGieClear : Obligations.NoInterruptWithGieClear :=
  fun _ hawake hreset hgie => State.boundary_of_quiet hawake hreset (.inl hgie)

/-- R178: with a free slot, interrupt entry writes the stack, GIE and the program counter alone. -/
theorem State.takeInterrupt_of_room (s : State) (hroom : s.stack.length < s.cfg.stackDepth) :
    s.takeInterrupt = .ok { s with
      stack := s.pc :: s.stack, stale := s.stale.dropLast, gie := false, pc := s.cfg.intVector } :=
  State.takeInterrupt_of_push (s.push_of_room s.pc hroom)

/-- Settles O37: the step is interrupt entry from the arrived state, with the free slot that `s` has. -/
theorem interruptEntryPushesPcAndClearsGie : Obligations.InterruptEntryPushesPcAndClearsGie := by
  intro s hawake hreset hgie hrequest hroom
  have htaken := s.arrive.takeInterrupt_of_room hroom
  exact ⟨_, step_of_interrupt hawake hreset hgie hrequest htaken, rfl, rfl, rfl, rfl, sameFlags_refl s, rfl,
    sameControl_refl s.arrive, sameFiles_refl { s.arrive with gie := false }⟩

theorem State.set_gie_of_set {s : State} (hgie : s.gie = true) : { s with gie := true } = s := by
  rw [← hgie]

/-- Settles O39: RETFIE pops the `pc` that the entry pushed, and sets the GIE that was set before it. -/
theorem retfieInvertsInterruptEntry : Obligations.RetfieInvertsInterruptEntry := by
  intro s hgie hroom
  refine ⟨_, _, s.takeInterrupt_of_room hroom, exec_retfie_of_pop (State.pop_of_live _ s.pc s.stack rfl), ?_⟩
  exact congrArg (fun t : State => { t with cycles := s.cycles + 2 }) (State.set_gie_of_set hgie)

/-! ### Sleep -/

/-- Settles O43: `Wake` alone decides, and without it the arrived state is the step's answer. -/
theorem sleepingCoreWaitsForWake : Obligations.SleepingCoreWaitsForWake := by
  intro s hasleep hreset
  have hboundary := State.boundary_of_asleep hasleep hreset
  exact ⟨fun hstays => step_of_settle (hboundary.trans (State.whileAsleep_of_not_wakes hstays)),
    fun hwakes => hboundary.trans (State.whileAsleep_of_wakes hwakes)⟩

/-! ### Resets -/

theorem State.resetProfile_of_none {s : State} (h : s.cfg.profile = .none) : s.resetProfile = s := by
  simp [State.resetProfile, h]

theorem State.resetProfile_of_ne_none {s : State} (h : s.cfg.profile ≠ .none) : s.resetProfile = s.loadProfile := by
  unfold State.resetProfile
  split
  next hnone => exact absurd hnone h
  next => rfl
  next => rfl

/-- R201: "as the profile says"; without a profile there is nothing to say. A reset loads what a launch does. -/
theorem State.resetProfile_profileRegistersReset (s : State) : ProfileRegistersReset s.resetProfile := by
  by_cases hprofile : s.cfg.profile = .none
  · simp [ProfileRegistersReset, hprofile]
  · rw [State.resetProfile_of_ne_none hprofile]
    exact launch_profileRegistersReset s.cfg []

theorem State.resetBy_profileRegistersReset (s : State) (cause : ResetCause) :
    ProfileRegistersReset (s.resetBy cause) :=
  s.resetProfile_profileRegistersReset

theorem State.resetBy_sameFlags (s : State) (cause : ResetCause) : SameFlags s (s.resetBy cause) := by
  simp [SameFlags]

/-- R201: of the registers of a profile, a reset of a machine without one writes none. -/
theorem State.resetBy_of_none (s : State) (cause : ResetCause) (h : s.cfg.profile = .none) :
    (s.resetBy cause).optionReg = s.optionReg ∧ (s.resetBy cause).trisRegs = s.trisRegs ∧
      (s.resetBy cause).rp0 = s.rp0 ∧ (s.resetBy cause).rp1 = s.rp1 ∧ (s.resetBy cause).irp = s.irp := by
  simp [State.resetBy_optionReg, State.resetBy_trisRegs, State.resetBy_rp0, State.resetBy_rp1, State.resetBy_irp,
    State.resetProfile_of_none h]

/-- What a reset leaves, TO and PD apart, is the same for every cause. -/
theorem State.resetBy_resetLeft (s : State) (cause : ResetCause) : ResetLeft s (s.resetBy cause) := by
  have hflags := s.resetBy_sameFlags cause
  have hprofile := s.resetBy_profileRegistersReset cause
  have hnone := s.resetBy_of_none cause
  simpa [ResetLeft, hflags, hprofile] using hnone

/-- Settles O41: awake, the reset with the cause `wdt`; asleep, the wake-up. -/
theorem watchdogTimeoutResetsOrWakes : Obligations.WatchdogTimeoutResetsOrWakes := by
  intro s hexternal henabled htimeout
  have hboundary := State.boundary_of_wdtTimeout hexternal henabled htimeout
  refine ⟨fun hawake => ?reset, fun hasleep => ?wake⟩
  case reset =>
    have hstep := step_of_settle (hboundary.trans (State.onWdtTimeout_of_awake hawake))
    exact ⟨_, hstep, s.arrive.resetBy_resetLeft .wdt, rfl, rfl⟩
  case wake => exact hboundary.trans (State.onWdtTimeout_of_asleep hasleep)

end Sys2Proof.Machine

/-! PROOFS. Resets and hazards (70_reset_and_hazards.md): the step that an external reset replaces, the step that runs
the decoded instruction, the two ends of a run (R221), which the environment's arrival keeps, and the cycles an
instruction takes (R214). -/

namespace Sys2Proof.Machine

/-! ### The external reset -/

section
variable {s : State}

theorem State.choose_of_externalReset (h : s.env.externalReset = true) : s.choose = .settle s.externalReset := by
  simp [State.choose, h]

/-- 70_reset_and_hazards.md R219: an external reset comes before all else. -/
theorem State.boundary_of_externalReset (h : (s.inputs.headD {}).externalReset = true) :
    s.boundary = .settle s.arrive.externalReset :=
  State.choose_of_externalReset h

theorem State.externalReset_of_asleep (h : s.asleep = true) : s.externalReset = s.resetBy .externalInSleep := by
  simp [State.externalReset, h]

theorem State.externalReset_of_awake (h : s.asleep = false) : s.externalReset = s.resetBy .external := by
  simp [State.externalReset, h]

end

/-- Settles O42: the cause, on which TO and PD depend, is that of the mode the core is in. -/
theorem externalResetReplacesAnyStep : Obligations.ExternalResetReplacesAnyStep := by
  intro s hreset
  refine ⟨_, step_of_settle (State.boundary_of_externalReset hreset), s.arrive.resetBy_resetLeft _,
    fun hasleep => ?asleep, fun hawake => ?awake⟩
  case asleep =>
    rw [State.externalReset_of_asleep (s := s.arrive) hasleep]
    exact ⟨rfl, rfl⟩
  case awake =>
    rw [State.externalReset_of_awake (s := s.arrive) hawake]
    exact ⟨rfl, rfl⟩

/-! ### The environment's arrival -/

section
variable {s : State}

theorem State.arrive_fetchInstr : s.arrive.fetchInstr = s.fetchInstr := rfl

/-- The model's choice (logs 19, 32): past the end of its list the environment is quiet. -/
theorem State.arrive_of_no_inputs (h : s.inputs = []) : s.arrive = { s with env := {}, tick := s.tick + 1 } := by
  simp [State.arrive, h]

theorem noResetDue_of_no_inputs (h : s.inputs = []) : NoResetDue s := by
  simp [NoResetDue, h]

theorem State.getLsbD_arrive_intcon (s : State) (n : Nat) :
    s.arrive.intcon.getLsbD n =
      (s.intcon.getLsbD n || ((s.inputs.headD {}).intFlags.getLsbD n && (requestBits s.cfg).getLsbD n)) := by
  rw [State.arrive_intcon, BitVec.getLsbD_or, BitVec.getLsbD_and]

/-- 20_memory.md R65: the environment clears no bit of INTCON. -/
theorem State.arrive_intcon_keeps (s : State) {n : Nat} (h : s.intcon.getLsbD n = true) :
    s.arrive.intcon.getLsbD n = true := by
  rw [State.getLsbD_arrive_intcon, h, Bool.true_or]

theorem State.arrive_onlyEnvironment (s : State) : OnlyEnvironment s s.arrive := by
  refine ⟨rfl, fun _ => s.arrive_intcon_keeps, fun n hn => ?_⟩
  rw [State.getLsbD_arrive_intcon, hn, Bool.and_false, Bool.or_false]

/-- What holds of every input to come, and of a quiet one, holds of the next. -/
theorem headD_of_forall_mem {inputs : List Input} {p : Input → Prop} (hquiet : p {}) (h : ∀ e ∈ inputs, p e) :
    p (inputs.headD {}) := by
  cases inputs with
  | nil => exact hquiet
  | cons e rest => exact h e List.mem_cons_self

end

/-- Settles O7: the boundary executes, and the arrival changes neither program memory nor `pc`. -/
theorem stepRunsTheDecodedInstruction : Obligations.StepRunsTheDecodedInstruction := by
  intro s a iw i hawake hreset hint haddress hread hdecode
  have hinstr : s.fetchInstr = .ok i := State.fetchInstr_of_decode (State.fetch_of_read haddress hread) hdecode
  exact ⟨step_of_execute (State.boundary_of_quiet hawake hreset hint) (State.arrive_fetchInstr.trans hinstr),
    State.arrive_of_no_inputs⟩

/-! ### Requests of INTCON's own sources that no input will bring -/

section
variable {s t : State}

/-- INTCON's sources request the more, the more of its bits are set. -/
theorem State.intconRequest_mono (hcfg : t.cfg = s.cfg)
    (hbits : ∀ n, s.intcon.getLsbD n = true → t.intcon.getLsbD n = true) (h : s.intconRequest = true) :
    t.intconRequest = true := by
  unfold State.intconRequest at h ⊢
  rw [hcfg]
  cases hsources : s.cfg.intSources with
  | free => simp [hsources] at h
  | intcon =>
    simp only [hsources, State.sourceRequest, Bool.or_eq_true, Bool.and_eq_true] at h ⊢
    exact h.imp (Or.imp (And.imp (hbits 4) (hbits 1)) (And.imp (hbits 5) (hbits 2)))
      (And.imp (hbits 3) (hbits 0))

theorem State.intconToCome_arrive (s : State) : s.arrive.intconToCome = s.intconToCome := by
  cases hinputs : s.inputs <;> simp [State.intconToCome, hinputs]

/-- A bit of INTCON that is set stays set while the inputs to come arrive. -/
theorem State.intcon_subset_intconToCome (s : State) {n : Nat} (h : s.intcon.getLsbD n = true) :
    s.intconToCome.getLsbD n = true := by
  induction hinputs : s.inputs generalizing s with
  | nil => simpa [State.intconToCome, hinputs] using h
  | cons e rest ih =>
    rw [← s.intconToCome_arrive]
    exact ih s.arrive (s.arrive_intcon_keeps h) (by rw [State.arrive_inputs, hinputs, List.tail_cons])

theorem NoIntconRequest.arrive (h : NoIntconRequest s) : NoIntconRequest s.arrive := by
  unfold NoIntconRequest at h ⊢
  rw [s.intconToCome_arrive]
  exact h

/-- What will not request with every flag bit to come does not request now. -/
theorem NoIntconRequest.intconRequest (h : NoIntconRequest s) : s.intconRequest = false := by
  by_contra hrequest
  have hever : { s with intcon := s.intconToCome }.intconRequest = true :=
    State.intconRequest_mono (s := s) rfl (fun _ => s.intcon_subset_intconToCome) (Bool.of_not_eq_false hrequest)
  exact Bool.false_ne_true (h.symm.trans hever)

end

/-! ### The end of a run by sleep (R221 b) -/

section
variable {s : State}

theorem NeverWoken.noResetDue (h : NeverWoken s) : NoResetDue s := by
  obtain ⟨hinputs, -⟩ := h
  obtain ⟨-, hreset, hwdt⟩ := headD_of_forall_mem (by simp) hinputs
  refine ⟨hreset, ?_⟩
  cases henabled : s.cfg.wdtEnabled with
  | false => exact .inl rfl
  | true => exact .inr (hwdt henabled)

theorem NeverWoken.arrive_wakes (h : NeverWoken s) : s.arrive.wakes = false := by
  obtain ⟨hinputs, hintcon⟩ := h
  obtain ⟨hwake, -, -⟩ := headD_of_forall_mem (by simp) hinputs
  exact Bool.or_eq_false_iff.mpr ⟨hwake, hintcon.arrive.intconRequest⟩

theorem Quiescent.arrive (h : Quiescent s) : Quiescent s.arrive := by
  obtain ⟨hasleep, hinputs, hintcon⟩ := h
  exact ⟨hasleep, fun e he => hinputs e (List.mem_of_mem_tail he), hintcon.arrive⟩

end

/-- Settles O44: with no wake-up the step answers the arrived state (`sleepingCoreWaitsForWake`). -/
theorem quiescentSleepNeverEnds : Obligations.QuiescentSleepNeverEnds := by
  intro s h
  have ⟨hasleep, hnever⟩ := h
  obtain ⟨hstays, -⟩ := sleepingCoreWaitsForWake s hasleep hnever.noResetDue
  exact ⟨_, hstays hnever.arrive_wakes, h.arrive, s.arrive_onlyEnvironment, State.arrive_of_no_inputs⟩

/-! ### The end of a run by a self-loop (R221 a) -/

section
variable {s : State}

theorem NeverRequested.arrive (h : NeverRequested s) : NeverRequested s.arrive := by
  obtain ⟨hinputs, hintcon⟩ := h
  exact ⟨fun e he => hinputs e (List.mem_of_mem_tail he), hintcon.arrive⟩

theorem NeverRequested.arrive_intRequest (h : NeverRequested s) : s.arrive.intRequest = false := by
  obtain ⟨hinputs, hintcon⟩ := h
  have hrequest : s.arrive.env.intRequest = false := headD_of_forall_mem (p := (·.intRequest = false)) rfl hinputs
  exact Bool.or_eq_false_iff.mpr ⟨hrequest, hintcon.arrive.intconRequest⟩

theorem SelfLoop.arrive (h : SelfLoop s) : SelfLoop s.arrive := by
  obtain ⟨hawake, hint, hgoto⟩ := h
  exact ⟨hawake, hint.imp_right NeverRequested.arrive, hgoto⟩

/-- The cycle count is no part of what makes a self-loop. -/
theorem SelfLoop.set_cycles (h : SelfLoop s) (n : Nat) : SelfLoop { s with cycles := n } := h

theorem State.jump_self {t : ProgAddr} (h : t = s.pc) : s.jump t = { s with cycles := s.cycles + 2 } := by
  rw [State.jump, h]

/-- The GOTO comes back to itself, so that its step is the arrival two cycles later. -/
theorem SelfLoop.step_eq (h : SelfLoop s) (hreset : NoResetDue s) :
    step s = .next { s.arrive with cycles := s.cycles + 2 } := by
  obtain ⟨hawake, hint, k, hfetch, htarget⟩ := h
  have hboundary := State.boundary_of_quiet hawake hreset (hint.imp_right NeverRequested.arrive_intRequest)
  calc step s = exec (.goto k) s.arrive := step_of_execute hboundary (State.arrive_fetchInstr.trans hfetch)
    _ = .next (s.arrive.jump (s.pageTarget k)) := rfl
    _ = .next { s.arrive with cycles := s.cycles + 2 } := congrArg _ (State.jump_self (s := s.arrive) htarget)

end

/-- Settles O45: the arrival keeps a self-loop, whatever the cycle count. -/
theorem selfLoopNeverEnds : Obligations.SelfLoopNeverEnds := by
  intro s h
  refine ⟨fun hreset => ?stays, fun hinputs => ?quiet⟩
  case stays =>
    exact ⟨_, h.step_eq hreset, h.arrive.set_cycles _, rfl,
      State.arrive_onlyEnvironment { s with cycles := s.cycles + 2 }⟩
  case quiet =>
    rw [h.step_eq (noResetDue_of_no_inputs hinputs), State.arrive_of_no_inputs hinputs]

/-! ### The cycles of an instruction (R214) -/

/-- The instruction takes two cycles: a jump, a skip instruction that skips, or another that writes the program
counter's low byte. -/
def TwoCycles (i : Instr) (s t : State) : Prop :=
  isJump i = true ∨ (isSkip i = true ∧ t.pc = s.pc + 2#13) ∨ (isSkip i = false ∧ WritesLoc i s .pcl)

section
variable {i : Instr} {s t : State}

theorem twoCycles_of_skip (hjump : isJump i = false) (hskip : isSkip i = true) :
    TwoCycles i s t ↔ t.pc = s.pc + 2#13 := by
  simp [TwoCycles, hjump, hskip]

theorem twoCycles_of_not_skip (hjump : isJump i = false) (hskip : isSkip i = false) :
    TwoCycles i s t ↔ WritesLoc i s .pcl := by
  simp [TwoCycles, hjump, hskip]

theorem not_writesLoc_of_fileDest_none (h : fileDest i = none) (l : FileLoc) : ¬WritesLoc i s l := by
  simp [WritesLoc, h]

/-- A delivery writes the location of its operand, if its designator says so. -/
theorem writesLoc_iff_of_destFile {f : FileField} {l dest : FileLoc} {d : Dest} (hea : s.ea f = .ok l)
    (hdest : fileDest i = destFile d f) : WritesLoc i s dest ↔ d = .f ∧ l = dest := by
  cases d <;> simp [WritesLoc, hdest, destFile, hea]

/-- Whether a skip is taken shows in the program counter. -/
theorem State.skipIf_cycles_eq (hpc : t.pc = s.pc) (hcycles : t.cycles = s.cycles) (test : Bool) :
    (t.skipIf test).cycles = s.cycles + if (t.skipIf test).pc = s.pc + 2#13 then 2 else 1 := by
  cases test <;> simp [hpc, hcycles]

theorem State.finishDest_cycles_eq (s : State) (l : FileLoc) (d : Dest) :
    (s.finishDest l d).cycles = s.cycles + if d = .f ∧ l = .pcl then 2 else 1 := by
  cases d with
  | w => simp
  | f =>
    by_cases hl : l = .pcl
    · simp [hl]
    · simp [hl, s.finishWrite_of_ne_pcl l hl]

open Classical in
/-- 70_reset_and_hazards.md R214, effect by effect. -/
theorem ExecEffect.cycles_eq (h : ExecEffect i s t) : t.cycles = s.cycles + if TwoCycles i s t then 2 else 1 := by
  cases h with
  | deliver hea hdest _ hjump hskip =>
    rw [State.finishDest_cycles_eq, State.toDest_cycles]
    simp only [twoCycles_of_not_skip hjump hskip, writesLoc_iff_of_destFile hea hdest]
  | deliverSkip _ hpcl _ _ hjump hskip =>
    simp only [twoCycles_of_skip hjump hskip]
    exact State.skipIf_cycles_eq (s.toDest_pc _ _ _ hpcl) (s.toDest_cycles _ _ _) _
  | skip _ _ hjump hskip =>
    simp only [twoCycles_of_skip hjump hskip]
    exact State.skipIf_cycles_eq rfl rfl _
  | literal hdest _ hjump hskip =>
    simp [twoCycles_of_not_skip hjump hskip, not_writesLoc_of_fileDest_none hdest]
  | nop | clrwdt | option | tris | sleep =>
    rw [if_neg (mt (twoCycles_of_not_skip rfl rfl).mp (not_writesLoc_of_fileDest_none rfl _))]
    rfl
  | goto => rw [if_pos (.inl rfl)]; rfl
  | call hpush => rw [if_pos (.inl rfl), State.jump_cycles, State.push_frame hpush]
  | ret hpop | retlw hpop | retfie hpop =>
    rw [if_pos (.inl rfl), State.pop_frame hpop]
    rfl

end

/-- Settles O47: by the cycles of the effects an execution can have. -/
theorem cyclesFollowTheTwoCycleRule : Obligations.CyclesFollowTheTwoCycleRule := by
  intro i s t h
  have hcycles := (exec_effect h).cycles_eq
  refine ⟨fun (htwo : TwoCycles i s t) => ?two, fun (hone : ¬TwoCycles i s t) => ?one⟩
  case two => rwa [if_pos htwo] at hcycles
  case one => rwa [if_neg hone] at hcycles

end Sys2Proof.Machine
